-- ==== Sys2Proof/Word.lean ====
section
/-!
DEFINITION. The word types of the HuC6280: bytes, 16-bit logical addresses and 21-bit physical
addresses (spec 00_scope.md R5, 20_memory.md R100). Everything that reads fields or changes byte
order stands in the decoder and under Machine/.
-/

namespace Sys2Proof

/-- A data byte or an 8-bit register (00_scope.md R5). -/
abbrev Byte := BitVec 8

/-- A 16-bit logical address, the program counter or a block length (20_memory.md R100). -/
abbrev Word := BitVec 16

/-- A 21-bit physical address, pins A0-A20 (20_memory.md R100). -/
abbrev PhysAddr := BitVec 21

end Sys2Proof
end

