-- ==== Sys2Proof/Config.lean ====
section
/-!
DEFINITION. What an implementation fixes and the spec leaves open: the parameters of
92_eei_decisions.md as constants with no body, so that nothing can be proved of their values, and the
one fixed choice of the model (what an unlisted memory byte reads as).
-/

namespace Sys2Proof

/-- One access to a unit whose behaviour the spec does not give (the HuC6270, the HuC6260, the PSG,
an undecoded address of block $FF, a platform device), or the RESET signal they all receive
(70_reset_and_hazards.md R601). -/
inductive DeviceAccess where
  | read (pa : PhysAddr)
  | write (pa : PhysAddr) (v : Byte)
  | reset
deriving DecidableEq, Repr

/-- The on-chip registers whose reads have bit positions that hold no field
(60_exceptions.md R501, R502, R534). -/
inductive IoReg where
  | irr
  | idr
  | timerCounter
deriving DecidableEq, Repr

/-- Decimal addition (ADC) or subtraction (SBC), an argument of `Config.bcdInvalid`. -/
inductive DecimalOp where
  | add
  | subtract
deriving DecidableEq, Repr

/-- What parameter `bcd_invalid` answers: the result byte and the flags C, N and Z
(92_eei_decisions.md D8). -/
structure DecimalResult where
  result : Byte
  c : Bool
  n : Bool
  z : Bool
deriving DecidableEq, Repr, Inhabited

/-- The values parameter `reset_unspecified` gives to every item 10_state.md R55 marks unspecified
(92_eei_decisions.md D19). -/
structure ResetValues where
  a : Byte
  x : Byte
  y : Byte
  sp : Byte
  n : Bool
  v : Bool
  z : Bool
  c : Bool
  m0 : Byte
  m1 : Byte
  m2 : Byte
  m3 : Byte
  m4 : Byte
  m5 : Byte
  m6 : Byte
  mprLatch : Byte
  reload : BitVec 7
  counter : BitVec 7
  prescaler : BitVec 10
  sh : Byte
  dh : Byte
  lh : Byte
deriving DecidableEq, Repr, Inhabited

/-- What a byte of memory that nothing has written reads as. DESIGN CHOICE (log 1, unsafe): the spec
leaves the contents of the external bus to the platform (92_eei_decisions.md D17). -/
def Config.unlistedByte : Byte := 0x00#8

/-- The byte a device on the external bus answers, as a function of the accesses made before (newest
first) and the address: parameter `PhysMem` (92_eei_decisions.md D17; log 7). Free value. -/
opaque Config.physMemRead : List DeviceAccess → PhysAddr → Byte

/-- The byte an internal address that no source decodes answers, the PSG range included: parameter
`io_undecoded` (92_eei_decisions.md D16; log 8). Free value. -/
opaque Config.ioUndecoded : List DeviceAccess → PhysAddr → Byte

/-- The byte whose bits fill the positions of a register read that hold no field: parameter
`io_unused_bits` (92_eei_decisions.md D15; log 9). The number is that of the draw. Free value. -/
opaque Config.ioUnusedBits : IoReg → Nat → Byte

/-- Decimal ADC or SBC of L and M with the incoming carry where a nibble is above 9: parameter
`bcd_invalid` (92_eei_decisions.md D8; log 10). Free value. -/
opaque Config.bcdInvalid : DecimalOp → Byte → Byte → Bool → DecimalResult

/-- Whether a read of the timer counter that coincides with a count may be wrong: parameter
`timer_read_glitch` (92_eei_decisions.md D25; log 11). Free value. -/
opaque Config.timerReadGlitch : Bool

/-- What such a read answers (70_reset_and_hazards.md R612; log 11). The number is that of the draw.
Free value. -/
opaque Config.glitchedCounter : Nat → BitVec 7

/-- After the schedule of the environment has ended: how many points at which the environment can act
pass before the next periods of the timer's clock (92_eei_decisions.md D21; log 18). The number is that
of the draw. Free value. -/
opaque Config.idleWait : Nat → Nat

/-- How many periods, beside one, then pass (92_eei_decisions.md D21; log 18). Free value. -/
opaque Config.idlePeriods : Nat → Nat

/-- Whether the access that coincides with a count which then falls is marked
(92_eei_decisions.md D25; log 18). Free value. -/
opaque Config.idleMark : Nat → Bool

/-- How many cycles, beside one, a byte of a block transfer takes more where its source or its destination
is the HuC6270, as a function of the accesses made to devices before the instruction and of how many
bytes are still to come (70_reset_and_hazards.md R622 (e); log 23). Free value. -/
opaque Config.vdcByteCycles : List DeviceAccess → Nat → Nat

/-- The values a RESET during a run leaves in the items it does not initialise: parameter
`reset_unspecified` (92_eei_decisions.md D19; log 3). The number is that of the draw. Free value. -/
opaque Config.resetUnspecified : Nat → ResetValues

end Sys2Proof
end

