-- ==== Sys2Proof/Machine/State.lean ====
section
/-!
DEFINITION. The state of the machine as plain data: everything 10_state.md R30 lists, the inputs and
platform parameters the model holds beside it, the reasons a step can stop, and the state after reset.
-/

namespace Sys2Proof.Machine

/-- The level of an input pin (60_exceptions.md R501, R512): H or L. -/
inductive Level where
  | high
  | low
deriving DecidableEq, Repr

/-- The clock speed mode (10_state.md R53). -/
inductive Speed where
  | low
  | high
deriving DecidableEq, Repr

/-- The interrupt the last sample selected (10_state.md R30, 60_exceptions.md R510). -/
inductive IntSel where
  | none
  | nmi
  | timer
  | irq1
  | irq2
deriving DecidableEq, Repr

/-- The seven stored flags of the status register P (10_state.md R36). B is not stored. -/
structure Flags where
  /-- Negative, bit 7 (R44). -/
  n : Bool
  /-- Overflow, bit 6 (R43). -/
  v : Bool
  /-- Memory operation, bit 5 (R42). -/
  t : Bool
  /-- Decimal, bit 3 (R40). -/
  d : Bool
  /-- Interrupt disable, bit 2 (R39). -/
  i : Bool
  /-- Zero, bit 1 (R38). -/
  z : Bool
  /-- Carry, bit 0 (R37). -/
  c : Bool
deriving DecidableEq, Repr

/-- The eight mapping registers MPR[0] to MPR[7] (10_state.md R46). -/
structure Mpr where
  m0 : Byte
  m1 : Byte
  m2 : Byte
  m3 : Byte
  m4 : Byte
  m5 : Byte
  m6 : Byte
  m7 : Byte
deriving DecidableEq, Repr

/-- The interrupt disable register (10_state.md R48). -/
structure Idr where
  tiqd : Bool
  irq1d : Bool
  irq2d : Bool
deriving DecidableEq, Repr

/-- The interval timer (10_state.md R51). The prescaler is the count of its ten divide-by-2 stages. -/
structure Timer where
  reload : BitVec 7
  counter : BitVec 7
  start : Bool
  prescaler : BitVec 10
deriving DecidableEq, Repr

/-- The levels of the input pins: inputs of the model (10_state.md R50, R52; log 5). -/
structure Pins where
  nmi : Level
  irq1 : Level
  irq2 : Level
  /-- Port K, pins K7-K0 as bits 7-0 (60_exceptions.md R540). -/
  k : Byte
deriving DecidableEq, Repr

/-- What the environment and the timer's clock can do between two bus accesses (00_scope.md R10). -/
inductive EnvEvent where
  /-- The NMI pin takes a level; a change from H to L is the edge of 60_exceptions.md R512. -/
  | nmiPin (l : Level)
  /-- The IRQ1 pin takes a level. -/
  | irq1Pin (l : Level)
  /-- The IRQ2 pin takes a level. -/
  | irq2Pin (l : Level)
  /-- The byte on pins K7-K0 changes. -/
  | portK (v : Byte)
  /-- So many periods of PPS3 pass (60_exceptions.md R530, R531). -/
  | clock (periods : Nat)
  /-- The coming access coincides with a count of the timer (70_reset_and_hazards.md R612). -/
  | readGlitch
  /-- The RESET pin is pulsed (70_reset_and_hazards.md R600). -/
  | resetPulse
deriving DecidableEq, Repr

/-- The on-chip devices of physical block $FF, the interrupt circuit and the environment. -/
structure Io where
  idr : Idr
  /-- The timer interrupt request (10_state.md R49). -/
  tiq : Bool
  /-- The latched NMI edge (10_state.md R50). -/
  nmiPending : Bool
  timer : Timer
  /-- The latch of output port O (10_state.md R52). -/
  portO : Byte
  pins : Pins
  /-- A RESET pulse waits for the next step boundary (log 20). -/
  resetPending : Bool
  /-- The batches of environment events still to come, one for each point at which the environment can
  act (log 5). -/
  schedule : List (List EnvEvent)
  /-- After the schedule has ended, how many points at which the environment can act pass before the
  timer's clock runs on (log 18). -/
  clockWait : Nat
  /-- The coming access was marked as coinciding with a timer count (log 11). -/
  glitch : Bool
  /-- The accesses made to units whose behaviour the spec does not give, newest first (log 7). -/
  deviceLog : List DeviceAccess
  /-- How many free values have been drawn (log 22). -/
  freeCount : Nat
deriving DecidableEq, Repr

/-- What answers at an address of the external bus (20_memory.md R103). -/
inductive BusKind where
  /-- A read returns the last byte written. -/
  | ram
  /-- A write has no effect. -/
  | rom
  /-- A device of the platform, with behaviour of its own. -/
  | device
deriving DecidableEq, Repr

/-- A range of physical addresses of the external bus and what answers there (log 6). -/
structure Region where
  base : Nat
  size : Nat
  kind : BusKind
deriving DecidableEq, Repr

/-- The bytes of RAM and ROM by physical address, in one canonical form: addresses strictly rising, no
entry equal to what an unlisted address reads as. -/
abbrev Memory := List Host.Cell

/-- The complete state (10_state.md R30) with the environment and the platform beside it. -/
structure State where
  /-- The accumulator A (R31). -/
  a : Byte
  /-- The index register X (R32). -/
  x : Byte
  /-- The index register Y (R32). -/
  y : Byte
  /-- The stack pointer S (R35). -/
  sp : Byte
  /-- The program counter PC (R33). -/
  pc : Word
  /-- The status register P (R36). -/
  p : Flags
  /-- The block-transfer source high byte SH (R45). -/
  sh : Byte
  /-- The block-transfer destination high byte DH (R45). -/
  dh : Byte
  /-- The block-transfer length high byte LH (R45). -/
  lh : Byte
  /-- The mapping registers (R46). -/
  mpr : Mpr
  /-- The last value transferred by TAM (R47). -/
  mprLatch : Byte
  /-- The speed mode (R53). -/
  speed : Speed
  /-- The interrupt selected by the last sample (R54). -/
  intSel : IntSel
  /-- The bytes of RAM and ROM on the external bus (20_memory.md R103). -/
  mem : Memory
  /-- What the platform put on the external bus; an address in no range is RAM (log 6). -/
  platform : List Region
  /-- Block $FF, the interrupt circuit and the environment. -/
  io : Io
deriving DecidableEq, Repr

/-- The reasons a step ends in a fault. There is none: the spec gives the chip no fault of any kind
(60_exceptions.md R505), so nothing raises one. Safe: no claim rests on a fault. -/
inductive Fault where
deriving DecidableEq, Repr

/-- The reasons a step has no successor. -/
inductive Refusal where
  /-- An instruction of the table with no meaning yet. Raised by `exec`'s refused arms, of which there
  is none. Safe. -/
  | notModelled (mnemonic : String)
  /-- `raise IllegalOpcode(op)`: one of the 22 undefined opcode bytes was fetched (30_encoding.md R176,
  log 13). Raised by the step. Safe: the model stops where the hardware goes on. -/
  | illegalOpcode (op : Byte)
  /-- TMA with two or more mask bits set, which the spec refuses (43_data_transfer.md R320, log 12).
  Raised by the meaning of TMA. Safe: the model stops where the hardware goes on. -/
  | tmaMultipleBits (mask : Byte)
deriving DecidableEq, Repr

/-- The machine right after reset: the values of 10_state.md R55; where it gives none, the values of
log 2 (registers), log 1 (memory), log 5, log 6, log 7, log 11, log 18, log 20 and log 22 (environment and
platform). The program counter is the vector at physical $001FFE and $001FFF, both of which read $00. -/
def State.reset : State :=
  { a := 0, x := 0, y := 0, sp := 0, pc := 0
    p := { n := false, v := false, t := false, d := false, i := true, z := false, c := false }
    sh := 0, dh := 0, lh := 0
    mpr := { m0 := 0, m1 := 0, m2 := 0, m3 := 0, m4 := 0, m5 := 0, m6 := 0, m7 := 0 }
    mprLatch := 0, speed := .low, intSel := .none, mem := [], platform := []
    io :=
      { idr := { tiqd := false, irq1d := false, irq2d := false }
        tiq := false, nmiPending := false
        timer := { reload := 0, counter := 0, start := false, prescaler := 0 }
        portO := 0xFF
        pins := { nmi := .high, irq1 := .high, irq2 := .high, k := 0xFF }
        resetPending := false, schedule := [], clockWait := 0, glitch := false, deviceLog := []
        freeCount := 0 } }

end Sys2Proof.Machine
end

