-- ==== Sys2Proof/Machine/Flags.lean ====
section
/-!
DEFINITION. The status byte and every flag computation: the ALU of 40_alu_arith_logic.md R200 to R205,
the shifts and counts of 41_alu_shift_incdec.md R241 to R246, the tests of 47_test.md R430 to R433.
An operation answers its result byte and the flags after it.
-/

namespace Sys2Proof.Machine

/-- `Pbyte(b) = {N, V, T, b, D, I, Z, C}` (10_state.md R36). -/
def Flags.toByte (p : Flags) (b : Bool) : Byte :=
  BitVec.ofBool p.n ++ BitVec.ofBool p.v ++ BitVec.ofBool p.t ++ BitVec.ofBool b ++
    BitVec.ofBool p.d ++ BitVec.ofBool p.i ++ BitVec.ofBool p.z ++ BitVec.ofBool p.c

/-- The flags in a pulled status byte; bit 4 is discarded (46_subroutine_stack.md R407, R410). -/
def flagsOfByte (b : Byte) : Flags :=
  { n := b.getLsbD 7, v := b.getLsbD 6, t := b.getLsbD 5, d := b.getLsbD 3
    i := b.getLsbD 2, z := b.getLsbD 1, c := b.getLsbD 0 }

/-- `setNZ(v)` (40_alu_arith_logic.md R200). -/
def Flags.setNZ (p : Flags) (v : Byte) : Flags := { p with n := v.getLsbD 7, z := v == 0 }

/-- `addbin(L, M, c)` (40_alu_arith_logic.md R202). -/
def addBin (l m : Byte) (p : Flags) : Byte × Flags :=
  let t := l.toNat + m.toNat + p.c.toNat
  let r : Byte := BitVec.ofNat 8 t
  (r, { p with
        c := decide (t > 255)
        v := (l.getLsbD 7 == m.getLsbD 7) && (r.getLsbD 7 != l.getLsbD 7) }.setNZ r)

/-- Both nibbles are decimal digits. -/
def isBcd (v : Byte) : Bool := decide (v.toNat / 16 ≤ 9) && decide (v.toNat % 16 ≤ 9)

/-- The two-digit decimal number a packed BCD byte stands for. -/
def bcdValue (v : Byte) : Nat := 10 * (v.toNat / 16) + v.toNat % 16

/-- The packed BCD byte of a number below 100. -/
def bcdByte (n : Nat) : Byte := BitVec.ofNat 8 (n / 10 * 16 + n % 10)

/-- The result and flags parameter `bcd_invalid` gives; V is unchanged (92_eei_decisions.md D8). -/
def bcdFree (op : DecimalOp) (l m : Byte) (p : Flags) : Byte × Flags :=
  let f := Config.bcdInvalid op l m p.c
  (f.result, { p with c := f.c, n := f.n, z := f.z })

/-- `adddec(L, M, c)` (40_alu_arith_logic.md R203). -/
def addDec (l m : Byte) (p : Flags) : Byte × Flags :=
  if isBcd l && isBcd m then
    let s := bcdValue l + bcdValue m + p.c.toNat
    let r := bcdByte (s % 100)
    (r, { p with c := decide (s > 99) }.setNZ r)
  else bcdFree .add l m p

/-- `subbin(L, M, c)` (40_alu_arith_logic.md R204). -/
def subBin (l m : Byte) (p : Flags) : Byte × Flags :=
  let t : Int := (l.toNat : Int) - m.toNat - (1 - p.c.toNat)
  let r : Byte := BitVec.ofInt 8 t
  (r, { p with
        c := decide (t ≥ 0)
        v := (l.getLsbD 7 != m.getLsbD 7) && (r.getLsbD 7 != l.getLsbD 7) }.setNZ r)

/-- `subdec(L, M, c)` (40_alu_arith_logic.md R205). -/
def subDec (l m : Byte) (p : Flags) : Byte × Flags :=
  if isBcd l && isBcd m then
    let d : Int := (bcdValue l : Int) - bcdValue m - (1 - p.c.toNat)
    let r := bcdByte (d % 100).toNat
    (r, { p with c := decide (d ≥ 0) }.setNZ r)
  else bcdFree .subtract l m p

/-- ADC's operation: binary or decimal by D (40_alu_arith_logic.md R210). -/
def adcOp (l m : Byte) (p : Flags) : Byte × Flags := if p.d then addDec l m p else addBin l m p

/-- SBC's operation: binary or decimal by D (40_alu_arith_logic.md R217). -/
def sbcOp (l m : Byte) (p : Flags) : Byte × Flags := if p.d then subDec l m p else subBin l m p

/-- AND's operation (40_alu_arith_logic.md R211). -/
def andOp (l m : Byte) (p : Flags) : Byte × Flags := (l &&& m, p.setNZ (l &&& m))

/-- EOR's operation (40_alu_arith_logic.md R215). -/
def eorOp (l m : Byte) (p : Flags) : Byte × Flags := (l ^^^ m, p.setNZ (l ^^^ m))

/-- ORA's operation (40_alu_arith_logic.md R216). -/
def oraOp (l m : Byte) (p : Flags) : Byte × Flags := (l ||| m, p.setNZ (l ||| m))

/-- The flags of a comparison of a register with M: CMP, CPX, CPY (40_alu_arith_logic.md R212 to
R214). -/
def compareFlags (r m : Byte) (p : Flags) : Flags :=
  { p with c := decide (m.toNat ≤ r.toNat) }.setNZ (r - m)

/-- ASL's operation (41_alu_shift_incdec.md R241). -/
def aslOp (v : Byte) (p : Flags) : Byte × Flags :=
  (v <<< 1, { p with c := v.getLsbD 7 }.setNZ (v <<< 1))

/-- LSR's operation (41_alu_shift_incdec.md R242). -/
def lsrOp (v : Byte) (p : Flags) : Byte × Flags :=
  (v >>> 1, { p with c := v.getLsbD 0, n := false, z := v >>> 1 == 0 })

/-- ROL's operation (41_alu_shift_incdec.md R243). -/
def rolOp (v : Byte) (p : Flags) : Byte × Flags :=
  let r : Byte := (v <<< 1) ||| (BitVec.ofBool p.c).setWidth 8
  (r, { p with c := v.getLsbD 7 }.setNZ r)

/-- ROR's operation (41_alu_shift_incdec.md R244). -/
def rorOp (v : Byte) (p : Flags) : Byte × Flags :=
  let r : Byte := (v >>> 1) ||| ((BitVec.ofBool p.c).setWidth 8 <<< 7)
  (r, { p with c := v.getLsbD 0 }.setNZ r)

/-- INC's operation, INX and INY's too (41_alu_shift_incdec.md R245, R247, R248). -/
def incOp (v : Byte) (p : Flags) : Byte × Flags := (v + 1, p.setNZ (v + 1))

/-- DEC's operation, DEX and DEY's too (41_alu_shift_incdec.md R246, R249, R250). -/
def decOp (v : Byte) (p : Flags) : Byte × Flags := (v - 1, p.setNZ (v - 1))

/-- The flags of a test: N and V from bits 7 and 6 of M as read, Z from a byte computed from it
(47_test.md R430 to R433). -/
def testFlags (m zeroOf : Byte) (p : Flags) : Flags :=
  { p with n := m.getLsbD 7, v := m.getLsbD 6, z := zeroOf == 0 }

/-- TRB's operation with accumulator `a` (47_test.md R431). -/
def trbOp (a m : Byte) (p : Flags) : Byte × Flags := (m &&& ~~~a, testFlags m (m &&& ~~~a) p)

/-- TSB's operation with accumulator `a` (47_test.md R432). -/
def tsbOp (a m : Byte) (p : Flags) : Byte × Flags := (m ||| a, testFlags m (m ||| a) p)

/-- The byte with bit i alone set: `1 << i`. -/
def bitMask (i : Fin 8) : Byte := 1#8 <<< i.val

/-- RMBi's operation; no flag is written (48_control.md R452). -/
def rmbOp (i : Fin 8) (v : Byte) (p : Flags) : Byte × Flags := (v &&& ~~~bitMask i, p)

/-- SMBi's operation; no flag is written (48_control.md R453). -/
def smbOp (i : Fin 8) (v : Byte) (p : Flags) : Byte × Flags := (v ||| bitMask i, p)

end Sys2Proof.Machine
end

