-- ==== Sys2Proof/Syntax.lean ====
section
/-!
DEFINITION. The instruction set as syntax: one constructor of `Instr` for each of the 234 rows of
spec/opcode_table.json (30_encoding.md R175), the addressing-mode formats of 30_encoding.md R151 and
the mnemonic of each row.
-/

namespace Sys2Proof

/-- The addressing modes that name one byte of memory, with their operand (30_encoding.md R157 to
R159, R161 to R166). -/
inductive Ea where
  | zp (zz : Byte)
  | zpX (zz : Byte)
  | zpY (zz : Byte)
  | ind (zz : Byte)
  | indX (zz : Byte)
  | indY (zz : Byte)
  | abs (hhll : Word)
  | absX (hhll : Word)
  | absY (hhll : Word)
deriving DecidableEq, Repr

/-- Where an instruction that reads one byte takes it from: an immediate (30_encoding.md R156) or a
memory byte. -/
inductive Source where
  | imm (nn : Byte)
  | mem (ea : Ea)
deriving DecidableEq, Repr

/-- The instruction formats of 30_encoding.md R151 with their operands. `mem` is any of ZP, ZPX, ZPY,
IND, INDX, INDY, ABS, ABSX, ABSY; `immMem` any of IMMZP, IMMZPX, IMMABS, IMMABSX. -/
inductive Form where
  | imp
  | acc
  | mpr (mask : Byte)
  | blk (ssss dddd llll : Word)
  | imm (nn : Byte)
  | mem (ea : Ea)
  | immMem (nn : Byte) (ea : Ea)
  | zpRel (zz rr : Byte)
  | absInd (hhll : Word)
  | absXInd (hhll : Word)
  | rel (rr : Byte)
deriving DecidableEq, Repr

/-- The mnemonics; the bit number of BBRi, BBSi, RMBi and SMBi is part of the mnemonic
(30_encoding.md R177). `setT` is SET. -/
inductive Mnemonic where
  | adc | and | cmp | cpx | cpy | eor | ora | sbc | asl | lsr | rol | ror | inc | dec | inx
  | iny | dex | dey | cla | clx | cly | clc | cld | cli | clv | sec | sed | sei | setT | lda
  | ldx | ldy | sta | stx | sty | stz | sax | say | sxy | tax | tay | tsx | txa | txs | tya
  | st0 | st1 | st2 | tam | tma | tii | tdd | tin | tia | tai | bbr (i : Fin 8)
  | bbs (i : Fin 8) | bcc | bcs | beq | bmi | bne | bpl | bra | bvc | bvs | jmp | bsr | jsr
  | pha | php | phx | phy | pla | plp | plx | ply | rti | rts | bit | trb | tsb | tst | brk
  | nop | rmb (i : Fin 8) | smb (i : Fin 8) | csh | csl
deriving DecidableEq, Repr

/-- The instructions, one constructor for each row of the opcode table, in the order of the rule
files. Each docstring gives the syntax, the opcode byte and the rule. -/
inductive Instr where
  -- Arithmetic, compare and logic (40_alu_arith_logic.md)
  /-- `ADC #nn`, $69, R210. -/
  | adcImm (nn : Byte)
  /-- `ADC zz`, $65, R210. -/
  | adcZp (zz : Byte)
  /-- `ADC zz,X`, $75, R210. -/
  | adcZpX (zz : Byte)
  /-- `ADC (zz)`, $72, R210. -/
  | adcInd (zz : Byte)
  /-- `ADC (zz,X)`, $61, R210. -/
  | adcIndX (zz : Byte)
  /-- `ADC (zz),Y`, $71, R210. -/
  | adcIndY (zz : Byte)
  /-- `ADC hhll`, $6D, R210. -/
  | adcAbs (hhll : Word)
  /-- `ADC hhll,X`, $7D, R210. -/
  | adcAbsX (hhll : Word)
  /-- `ADC hhll,Y`, $79, R210. -/
  | adcAbsY (hhll : Word)
  /-- `AND #nn`, $29, R211. -/
  | andImm (nn : Byte)
  /-- `AND zz`, $25, R211. -/
  | andZp (zz : Byte)
  /-- `AND zz,X`, $35, R211. -/
  | andZpX (zz : Byte)
  /-- `AND (zz)`, $32, R211. -/
  | andInd (zz : Byte)
  /-- `AND (zz,X)`, $21, R211. -/
  | andIndX (zz : Byte)
  /-- `AND (zz),Y`, $31, R211. -/
  | andIndY (zz : Byte)
  /-- `AND hhll`, $2D, R211. -/
  | andAbs (hhll : Word)
  /-- `AND hhll,X`, $3D, R211. -/
  | andAbsX (hhll : Word)
  /-- `AND hhll,Y`, $39, R211. -/
  | andAbsY (hhll : Word)
  /-- `CMP #nn`, $C9, R212. -/
  | cmpImm (nn : Byte)
  /-- `CMP zz`, $C5, R212. -/
  | cmpZp (zz : Byte)
  /-- `CMP zz,X`, $D5, R212. -/
  | cmpZpX (zz : Byte)
  /-- `CMP (zz)`, $D2, R212. -/
  | cmpInd (zz : Byte)
  /-- `CMP (zz,X)`, $C1, R212. -/
  | cmpIndX (zz : Byte)
  /-- `CMP (zz),Y`, $D1, R212. -/
  | cmpIndY (zz : Byte)
  /-- `CMP hhll`, $CD, R212. -/
  | cmpAbs (hhll : Word)
  /-- `CMP hhll,X`, $DD, R212. -/
  | cmpAbsX (hhll : Word)
  /-- `CMP hhll,Y`, $D9, R212. -/
  | cmpAbsY (hhll : Word)
  /-- `CPX #nn`, $E0, R213. -/
  | cpxImm (nn : Byte)
  /-- `CPX zz`, $E4, R213. -/
  | cpxZp (zz : Byte)
  /-- `CPX hhll`, $EC, R213. -/
  | cpxAbs (hhll : Word)
  /-- `CPY #nn`, $C0, R214. -/
  | cpyImm (nn : Byte)
  /-- `CPY zz`, $C4, R214. -/
  | cpyZp (zz : Byte)
  /-- `CPY hhll`, $CC, R214. -/
  | cpyAbs (hhll : Word)
  /-- `EOR #nn`, $49, R215. -/
  | eorImm (nn : Byte)
  /-- `EOR zz`, $45, R215. -/
  | eorZp (zz : Byte)
  /-- `EOR zz,X`, $55, R215. -/
  | eorZpX (zz : Byte)
  /-- `EOR (zz)`, $52, R215. -/
  | eorInd (zz : Byte)
  /-- `EOR (zz,X)`, $41, R215. -/
  | eorIndX (zz : Byte)
  /-- `EOR (zz),Y`, $51, R215. -/
  | eorIndY (zz : Byte)
  /-- `EOR hhll`, $4D, R215. -/
  | eorAbs (hhll : Word)
  /-- `EOR hhll,X`, $5D, R215. -/
  | eorAbsX (hhll : Word)
  /-- `EOR hhll,Y`, $59, R215. -/
  | eorAbsY (hhll : Word)
  /-- `ORA #nn`, $09, R216. -/
  | oraImm (nn : Byte)
  /-- `ORA zz`, $05, R216. -/
  | oraZp (zz : Byte)
  /-- `ORA zz,X`, $15, R216. -/
  | oraZpX (zz : Byte)
  /-- `ORA (zz)`, $12, R216. -/
  | oraInd (zz : Byte)
  /-- `ORA (zz,X)`, $01, R216. -/
  | oraIndX (zz : Byte)
  /-- `ORA (zz),Y`, $11, R216. -/
  | oraIndY (zz : Byte)
  /-- `ORA hhll`, $0D, R216. -/
  | oraAbs (hhll : Word)
  /-- `ORA hhll,X`, $1D, R216. -/
  | oraAbsX (hhll : Word)
  /-- `ORA hhll,Y`, $19, R216. -/
  | oraAbsY (hhll : Word)
  /-- `SBC #nn`, $E9, R217. -/
  | sbcImm (nn : Byte)
  /-- `SBC zz`, $E5, R217. -/
  | sbcZp (zz : Byte)
  /-- `SBC zz,X`, $F5, R217. -/
  | sbcZpX (zz : Byte)
  /-- `SBC (zz)`, $F2, R217. -/
  | sbcInd (zz : Byte)
  /-- `SBC (zz,X)`, $E1, R217. -/
  | sbcIndX (zz : Byte)
  /-- `SBC (zz),Y`, $F1, R217. -/
  | sbcIndY (zz : Byte)
  /-- `SBC hhll`, $ED, R217. -/
  | sbcAbs (hhll : Word)
  /-- `SBC hhll,X`, $FD, R217. -/
  | sbcAbsX (hhll : Word)
  /-- `SBC hhll,Y`, $F9, R217. -/
  | sbcAbsY (hhll : Word)
  -- Shifts, rotates, increments, decrements, clears (41_alu_shift_incdec.md)
  /-- `ASL A`, $0A, R241. -/
  | aslAcc
  /-- `ASL zz`, $06, R241. -/
  | aslZp (zz : Byte)
  /-- `ASL zz,X`, $16, R241. -/
  | aslZpX (zz : Byte)
  /-- `ASL hhll`, $0E, R241. -/
  | aslAbs (hhll : Word)
  /-- `ASL hhll,X`, $1E, R241. -/
  | aslAbsX (hhll : Word)
  /-- `LSR A`, $4A, R242. -/
  | lsrAcc
  /-- `LSR zz`, $46, R242. -/
  | lsrZp (zz : Byte)
  /-- `LSR zz,X`, $56, R242. -/
  | lsrZpX (zz : Byte)
  /-- `LSR hhll`, $4E, R242. -/
  | lsrAbs (hhll : Word)
  /-- `LSR hhll,X`, $5E, R242. -/
  | lsrAbsX (hhll : Word)
  /-- `ROL A`, $2A, R243. -/
  | rolAcc
  /-- `ROL zz`, $26, R243. -/
  | rolZp (zz : Byte)
  /-- `ROL zz,X`, $36, R243. -/
  | rolZpX (zz : Byte)
  /-- `ROL hhll`, $2E, R243. -/
  | rolAbs (hhll : Word)
  /-- `ROL hhll,X`, $3E, R243. -/
  | rolAbsX (hhll : Word)
  /-- `ROR A`, $6A, R244. -/
  | rorAcc
  /-- `ROR zz`, $66, R244. -/
  | rorZp (zz : Byte)
  /-- `ROR zz,X`, $76, R244. -/
  | rorZpX (zz : Byte)
  /-- `ROR hhll`, $6E, R244. -/
  | rorAbs (hhll : Word)
  /-- `ROR hhll,X`, $7E, R244. -/
  | rorAbsX (hhll : Word)
  /-- `INC A`, $1A, R245. -/
  | incAcc
  /-- `INC zz`, $E6, R245. -/
  | incZp (zz : Byte)
  /-- `INC zz,X`, $F6, R245. -/
  | incZpX (zz : Byte)
  /-- `INC hhll`, $EE, R245. -/
  | incAbs (hhll : Word)
  /-- `INC hhll,X`, $FE, R245. -/
  | incAbsX (hhll : Word)
  /-- `DEC A`, $3A, R246. -/
  | decAcc
  /-- `DEC zz`, $C6, R246. -/
  | decZp (zz : Byte)
  /-- `DEC zz,X`, $D6, R246. -/
  | decZpX (zz : Byte)
  /-- `DEC hhll`, $CE, R246. -/
  | decAbs (hhll : Word)
  /-- `DEC hhll,X`, $DE, R246. -/
  | decAbsX (hhll : Word)
  /-- `INX`, $E8, R247. -/
  | inx
  /-- `INY`, $C8, R248. -/
  | iny
  /-- `DEX`, $CA, R249. -/
  | dex
  /-- `DEY`, $88, R250. -/
  | dey
  /-- `CLA`, $62, R251. -/
  | cla
  /-- `CLX`, $82, R252. -/
  | clx
  /-- `CLY`, $C2, R253. -/
  | cly
  -- Flags (42_flag.md)
  /-- `CLC`, $18, R280. -/
  | clc
  /-- `CLD`, $D8, R281. -/
  | cld
  /-- `CLI`, $58, R282. -/
  | cli
  /-- `CLV`, $B8, R283. -/
  | clv
  /-- `SEC`, $38, R284. -/
  | sec
  /-- `SED`, $F8, R285. -/
  | sed
  /-- `SEI`, $78, R286. -/
  | sei
  /-- `SET`, $F4, R287. -/
  | setT
  -- Data transfer (43_data_transfer.md)
  /-- `LDA #nn`, $A9, R300. -/
  | ldaImm (nn : Byte)
  /-- `LDA zz`, $A5, R300. -/
  | ldaZp (zz : Byte)
  /-- `LDA zz,X`, $B5, R300. -/
  | ldaZpX (zz : Byte)
  /-- `LDA (zz)`, $B2, R300. -/
  | ldaInd (zz : Byte)
  /-- `LDA (zz,X)`, $A1, R300. -/
  | ldaIndX (zz : Byte)
  /-- `LDA (zz),Y`, $B1, R300. -/
  | ldaIndY (zz : Byte)
  /-- `LDA hhll`, $AD, R300. -/
  | ldaAbs (hhll : Word)
  /-- `LDA hhll,X`, $BD, R300. -/
  | ldaAbsX (hhll : Word)
  /-- `LDA hhll,Y`, $B9, R300. -/
  | ldaAbsY (hhll : Word)
  /-- `LDX #nn`, $A2, R301. -/
  | ldxImm (nn : Byte)
  /-- `LDX zz`, $A6, R301. -/
  | ldxZp (zz : Byte)
  /-- `LDX zz,Y`, $B6, R301. -/
  | ldxZpY (zz : Byte)
  /-- `LDX hhll`, $AE, R301. -/
  | ldxAbs (hhll : Word)
  /-- `LDX hhll,Y`, $BE, R301. -/
  | ldxAbsY (hhll : Word)
  /-- `LDY #nn`, $A0, R302. -/
  | ldyImm (nn : Byte)
  /-- `LDY zz`, $A4, R302. -/
  | ldyZp (zz : Byte)
  /-- `LDY zz,X`, $B4, R302. -/
  | ldyZpX (zz : Byte)
  /-- `LDY hhll`, $AC, R302. -/
  | ldyAbs (hhll : Word)
  /-- `LDY hhll,X`, $BC, R302. -/
  | ldyAbsX (hhll : Word)
  /-- `STA zz`, $85, R303. -/
  | staZp (zz : Byte)
  /-- `STA zz,X`, $95, R303. -/
  | staZpX (zz : Byte)
  /-- `STA (zz)`, $92, R303. -/
  | staInd (zz : Byte)
  /-- `STA (zz,X)`, $81, R303. -/
  | staIndX (zz : Byte)
  /-- `STA (zz),Y`, $91, R303. -/
  | staIndY (zz : Byte)
  /-- `STA hhll`, $8D, R303. -/
  | staAbs (hhll : Word)
  /-- `STA hhll,X`, $9D, R303. -/
  | staAbsX (hhll : Word)
  /-- `STA hhll,Y`, $99, R303. -/
  | staAbsY (hhll : Word)
  /-- `STX zz`, $86, R304. -/
  | stxZp (zz : Byte)
  /-- `STX zz,Y`, $96, R304. -/
  | stxZpY (zz : Byte)
  /-- `STX hhll`, $8E, R304. -/
  | stxAbs (hhll : Word)
  /-- `STY zz`, $84, R305. -/
  | styZp (zz : Byte)
  /-- `STY zz,X`, $94, R305. -/
  | styZpX (zz : Byte)
  /-- `STY hhll`, $8C, R305. -/
  | styAbs (hhll : Word)
  /-- `STZ zz`, $64, R306. -/
  | stzZp (zz : Byte)
  /-- `STZ zz,X`, $74, R306. -/
  | stzZpX (zz : Byte)
  /-- `STZ hhll`, $9C, R306. -/
  | stzAbs (hhll : Word)
  /-- `STZ hhll,X`, $9E, R306. -/
  | stzAbsX (hhll : Word)
  /-- `SAX`, $22, R307. -/
  | sax
  /-- `SAY`, $42, R308. -/
  | say
  /-- `SXY`, $02, R309. -/
  | sxy
  /-- `TAX`, $AA, R310. -/
  | tax
  /-- `TAY`, $A8, R311. -/
  | tay
  /-- `TSX`, $BA, R312. -/
  | tsx
  /-- `TXA`, $8A, R313. -/
  | txa
  /-- `TXS`, $9A, R314. -/
  | txs
  /-- `TYA`, $98, R315. -/
  | tya
  /-- `ST0 #nn`, $03, R316. -/
  | st0 (nn : Byte)
  /-- `ST1 #nn`, $13, R317. -/
  | st1 (nn : Byte)
  /-- `ST2 #nn`, $23, R318. -/
  | st2 (nn : Byte)
  /-- `TAM #mask`, $53, R319. -/
  | tam (mask : Byte)
  /-- `TMA #mask`, $43, R320. -/
  | tma (mask : Byte)
  -- Block transfer (44_block_transfer.md)
  /-- `TII ssss,dddd,llll`, $73, R351. -/
  | tii (ssss : Word) (dddd : Word) (llll : Word)
  /-- `TDD ssss,dddd,llll`, $C3, R352. -/
  | tdd (ssss : Word) (dddd : Word) (llll : Word)
  /-- `TIN ssss,dddd,llll`, $D3, R353. -/
  | tin (ssss : Word) (dddd : Word) (llll : Word)
  /-- `TIA ssss,dddd,llll`, $E3, R354. -/
  | tia (ssss : Word) (dddd : Word) (llll : Word)
  /-- `TAI ssss,dddd,llll`, $F3, R355. -/
  | tai (ssss : Word) (dddd : Word) (llll : Word)
  -- Branches and jumps (45_branch.md)
  /-- `BBR0 zz,rr`, $0F, R371. -/
  | bbr0 (zz : Byte) (rr : Byte)
  /-- `BBR1 zz,rr`, $1F, R371. -/
  | bbr1 (zz : Byte) (rr : Byte)
  /-- `BBR2 zz,rr`, $2F, R371. -/
  | bbr2 (zz : Byte) (rr : Byte)
  /-- `BBR3 zz,rr`, $3F, R371. -/
  | bbr3 (zz : Byte) (rr : Byte)
  /-- `BBR4 zz,rr`, $4F, R371. -/
  | bbr4 (zz : Byte) (rr : Byte)
  /-- `BBR5 zz,rr`, $5F, R371. -/
  | bbr5 (zz : Byte) (rr : Byte)
  /-- `BBR6 zz,rr`, $6F, R371. -/
  | bbr6 (zz : Byte) (rr : Byte)
  /-- `BBR7 zz,rr`, $7F, R371. -/
  | bbr7 (zz : Byte) (rr : Byte)
  /-- `BBS0 zz,rr`, $8F, R372. -/
  | bbs0 (zz : Byte) (rr : Byte)
  /-- `BBS1 zz,rr`, $9F, R372. -/
  | bbs1 (zz : Byte) (rr : Byte)
  /-- `BBS2 zz,rr`, $AF, R372. -/
  | bbs2 (zz : Byte) (rr : Byte)
  /-- `BBS3 zz,rr`, $BF, R372. -/
  | bbs3 (zz : Byte) (rr : Byte)
  /-- `BBS4 zz,rr`, $CF, R372. -/
  | bbs4 (zz : Byte) (rr : Byte)
  /-- `BBS5 zz,rr`, $DF, R372. -/
  | bbs5 (zz : Byte) (rr : Byte)
  /-- `BBS6 zz,rr`, $EF, R372. -/
  | bbs6 (zz : Byte) (rr : Byte)
  /-- `BBS7 zz,rr`, $FF, R372. -/
  | bbs7 (zz : Byte) (rr : Byte)
  /-- `BCC rr`, $90, R373. -/
  | bcc (rr : Byte)
  /-- `BCS rr`, $B0, R374. -/
  | bcs (rr : Byte)
  /-- `BEQ rr`, $F0, R375. -/
  | beq (rr : Byte)
  /-- `BMI rr`, $30, R376. -/
  | bmi (rr : Byte)
  /-- `BNE rr`, $D0, R377. -/
  | bne (rr : Byte)
  /-- `BPL rr`, $10, R378. -/
  | bpl (rr : Byte)
  /-- `BRA rr`, $80, R379. -/
  | bra (rr : Byte)
  /-- `BVC rr`, $50, R380. -/
  | bvc (rr : Byte)
  /-- `BVS rr`, $70, R381. -/
  | bvs (rr : Byte)
  /-- `JMP hhll`, $4C, R382. -/
  | jmpAbs (hhll : Word)
  /-- `JMP (hhll)`, $6C, R382. -/
  | jmpAbsInd (hhll : Word)
  /-- `JMP (hhll,X)`, $7C, R382. -/
  | jmpAbsXInd (hhll : Word)
  -- Subroutines, stack, returns (46_subroutine_stack.md)
  /-- `BSR rr`, $44, R400. -/
  | bsr (rr : Byte)
  /-- `JSR hhll`, $20, R401. -/
  | jsr (hhll : Word)
  /-- `PHA`, $48, R402. -/
  | pha
  /-- `PHP`, $08, R403. -/
  | php
  /-- `PHX`, $DA, R404. -/
  | phx
  /-- `PHY`, $5A, R405. -/
  | phy
  /-- `PLA`, $68, R406. -/
  | pla
  /-- `PLP`, $28, R407. -/
  | plp
  /-- `PLX`, $FA, R408. -/
  | plx
  /-- `PLY`, $7A, R409. -/
  | ply
  /-- `RTI`, $40, R410. -/
  | rti
  /-- `RTS`, $60, R411. -/
  | rts
  -- Tests (47_test.md)
  /-- `BIT #nn`, $89, R430. -/
  | bitImm (nn : Byte)
  /-- `BIT zz`, $24, R430. -/
  | bitZp (zz : Byte)
  /-- `BIT zz,X`, $34, R430. -/
  | bitZpX (zz : Byte)
  /-- `BIT hhll`, $2C, R430. -/
  | bitAbs (hhll : Word)
  /-- `BIT hhll,X`, $3C, R430. -/
  | bitAbsX (hhll : Word)
  /-- `TRB zz`, $14, R431. -/
  | trbZp (zz : Byte)
  /-- `TRB hhll`, $1C, R431. -/
  | trbAbs (hhll : Word)
  /-- `TSB zz`, $04, R432. -/
  | tsbZp (zz : Byte)
  /-- `TSB hhll`, $0C, R432. -/
  | tsbAbs (hhll : Word)
  /-- `TST #nn,zz`, $83, R433. -/
  | tstImmZp (nn : Byte) (zz : Byte)
  /-- `TST #nn,hhll`, $93, R433. -/
  | tstImmAbs (nn : Byte) (hhll : Word)
  /-- `TST #nn,zz,X`, $A3, R433. -/
  | tstImmZpX (nn : Byte) (zz : Byte)
  /-- `TST #nn,hhll,X`, $B3, R433. -/
  | tstImmAbsX (nn : Byte) (hhll : Word)
  -- Control (48_control.md)
  /-- `BRK`, $00, R450. -/
  | brk
  /-- `NOP`, $EA, R451. -/
  | nop
  /-- `RMB0 zz`, $07, R452. -/
  | rmb0 (zz : Byte)
  /-- `RMB1 zz`, $17, R452. -/
  | rmb1 (zz : Byte)
  /-- `RMB2 zz`, $27, R452. -/
  | rmb2 (zz : Byte)
  /-- `RMB3 zz`, $37, R452. -/
  | rmb3 (zz : Byte)
  /-- `RMB4 zz`, $47, R452. -/
  | rmb4 (zz : Byte)
  /-- `RMB5 zz`, $57, R452. -/
  | rmb5 (zz : Byte)
  /-- `RMB6 zz`, $67, R452. -/
  | rmb6 (zz : Byte)
  /-- `RMB7 zz`, $77, R452. -/
  | rmb7 (zz : Byte)
  /-- `SMB0 zz`, $87, R453. -/
  | smb0 (zz : Byte)
  /-- `SMB1 zz`, $97, R453. -/
  | smb1 (zz : Byte)
  /-- `SMB2 zz`, $A7, R453. -/
  | smb2 (zz : Byte)
  /-- `SMB3 zz`, $B7, R453. -/
  | smb3 (zz : Byte)
  /-- `SMB4 zz`, $C7, R453. -/
  | smb4 (zz : Byte)
  /-- `SMB5 zz`, $D7, R453. -/
  | smb5 (zz : Byte)
  /-- `SMB6 zz`, $E7, R453. -/
  | smb6 (zz : Byte)
  /-- `SMB7 zz`, $F7, R453. -/
  | smb7 (zz : Byte)
  /-- `CSH`, $D4, R454. -/
  | csh
  /-- `CSL`, $54, R455. -/
  | csl
deriving DecidableEq, Repr

/-- The mnemonic of each instruction, as its row of the opcode table has it. -/
def Instr.mnemonic : Instr → Mnemonic
  | .adcImm _ => .adc
  | .adcZp _ => .adc
  | .adcZpX _ => .adc
  | .adcInd _ => .adc
  | .adcIndX _ => .adc
  | .adcIndY _ => .adc
  | .adcAbs _ => .adc
  | .adcAbsX _ => .adc
  | .adcAbsY _ => .adc
  | .andImm _ => .and
  | .andZp _ => .and
  | .andZpX _ => .and
  | .andInd _ => .and
  | .andIndX _ => .and
  | .andIndY _ => .and
  | .andAbs _ => .and
  | .andAbsX _ => .and
  | .andAbsY _ => .and
  | .cmpImm _ => .cmp
  | .cmpZp _ => .cmp
  | .cmpZpX _ => .cmp
  | .cmpInd _ => .cmp
  | .cmpIndX _ => .cmp
  | .cmpIndY _ => .cmp
  | .cmpAbs _ => .cmp
  | .cmpAbsX _ => .cmp
  | .cmpAbsY _ => .cmp
  | .cpxImm _ => .cpx
  | .cpxZp _ => .cpx
  | .cpxAbs _ => .cpx
  | .cpyImm _ => .cpy
  | .cpyZp _ => .cpy
  | .cpyAbs _ => .cpy
  | .eorImm _ => .eor
  | .eorZp _ => .eor
  | .eorZpX _ => .eor
  | .eorInd _ => .eor
  | .eorIndX _ => .eor
  | .eorIndY _ => .eor
  | .eorAbs _ => .eor
  | .eorAbsX _ => .eor
  | .eorAbsY _ => .eor
  | .oraImm _ => .ora
  | .oraZp _ => .ora
  | .oraZpX _ => .ora
  | .oraInd _ => .ora
  | .oraIndX _ => .ora
  | .oraIndY _ => .ora
  | .oraAbs _ => .ora
  | .oraAbsX _ => .ora
  | .oraAbsY _ => .ora
  | .sbcImm _ => .sbc
  | .sbcZp _ => .sbc
  | .sbcZpX _ => .sbc
  | .sbcInd _ => .sbc
  | .sbcIndX _ => .sbc
  | .sbcIndY _ => .sbc
  | .sbcAbs _ => .sbc
  | .sbcAbsX _ => .sbc
  | .sbcAbsY _ => .sbc
  | .aslAcc => .asl
  | .aslZp _ => .asl
  | .aslZpX _ => .asl
  | .aslAbs _ => .asl
  | .aslAbsX _ => .asl
  | .lsrAcc => .lsr
  | .lsrZp _ => .lsr
  | .lsrZpX _ => .lsr
  | .lsrAbs _ => .lsr
  | .lsrAbsX _ => .lsr
  | .rolAcc => .rol
  | .rolZp _ => .rol
  | .rolZpX _ => .rol
  | .rolAbs _ => .rol
  | .rolAbsX _ => .rol
  | .rorAcc => .ror
  | .rorZp _ => .ror
  | .rorZpX _ => .ror
  | .rorAbs _ => .ror
  | .rorAbsX _ => .ror
  | .incAcc => .inc
  | .incZp _ => .inc
  | .incZpX _ => .inc
  | .incAbs _ => .inc
  | .incAbsX _ => .inc
  | .decAcc => .dec
  | .decZp _ => .dec
  | .decZpX _ => .dec
  | .decAbs _ => .dec
  | .decAbsX _ => .dec
  | .inx => .inx
  | .iny => .iny
  | .dex => .dex
  | .dey => .dey
  | .cla => .cla
  | .clx => .clx
  | .cly => .cly
  | .clc => .clc
  | .cld => .cld
  | .cli => .cli
  | .clv => .clv
  | .sec => .sec
  | .sed => .sed
  | .sei => .sei
  | .setT => .setT
  | .ldaImm _ => .lda
  | .ldaZp _ => .lda
  | .ldaZpX _ => .lda
  | .ldaInd _ => .lda
  | .ldaIndX _ => .lda
  | .ldaIndY _ => .lda
  | .ldaAbs _ => .lda
  | .ldaAbsX _ => .lda
  | .ldaAbsY _ => .lda
  | .ldxImm _ => .ldx
  | .ldxZp _ => .ldx
  | .ldxZpY _ => .ldx
  | .ldxAbs _ => .ldx
  | .ldxAbsY _ => .ldx
  | .ldyImm _ => .ldy
  | .ldyZp _ => .ldy
  | .ldyZpX _ => .ldy
  | .ldyAbs _ => .ldy
  | .ldyAbsX _ => .ldy
  | .staZp _ => .sta
  | .staZpX _ => .sta
  | .staInd _ => .sta
  | .staIndX _ => .sta
  | .staIndY _ => .sta
  | .staAbs _ => .sta
  | .staAbsX _ => .sta
  | .staAbsY _ => .sta
  | .stxZp _ => .stx
  | .stxZpY _ => .stx
  | .stxAbs _ => .stx
  | .styZp _ => .sty
  | .styZpX _ => .sty
  | .styAbs _ => .sty
  | .stzZp _ => .stz
  | .stzZpX _ => .stz
  | .stzAbs _ => .stz
  | .stzAbsX _ => .stz
  | .sax => .sax
  | .say => .say
  | .sxy => .sxy
  | .tax => .tax
  | .tay => .tay
  | .tsx => .tsx
  | .txa => .txa
  | .txs => .txs
  | .tya => .tya
  | .st0 _ => .st0
  | .st1 _ => .st1
  | .st2 _ => .st2
  | .tam _ => .tam
  | .tma _ => .tma
  | .tii _ _ _ => .tii
  | .tdd _ _ _ => .tdd
  | .tin _ _ _ => .tin
  | .tia _ _ _ => .tia
  | .tai _ _ _ => .tai
  | .bbr0 _ _ => .bbr 0
  | .bbr1 _ _ => .bbr 1
  | .bbr2 _ _ => .bbr 2
  | .bbr3 _ _ => .bbr 3
  | .bbr4 _ _ => .bbr 4
  | .bbr5 _ _ => .bbr 5
  | .bbr6 _ _ => .bbr 6
  | .bbr7 _ _ => .bbr 7
  | .bbs0 _ _ => .bbs 0
  | .bbs1 _ _ => .bbs 1
  | .bbs2 _ _ => .bbs 2
  | .bbs3 _ _ => .bbs 3
  | .bbs4 _ _ => .bbs 4
  | .bbs5 _ _ => .bbs 5
  | .bbs6 _ _ => .bbs 6
  | .bbs7 _ _ => .bbs 7
  | .bcc _ => .bcc
  | .bcs _ => .bcs
  | .beq _ => .beq
  | .bmi _ => .bmi
  | .bne _ => .bne
  | .bpl _ => .bpl
  | .bra _ => .bra
  | .bvc _ => .bvc
  | .bvs _ => .bvs
  | .jmpAbs _ => .jmp
  | .jmpAbsInd _ => .jmp
  | .jmpAbsXInd _ => .jmp
  | .bsr _ => .bsr
  | .jsr _ => .jsr
  | .pha => .pha
  | .php => .php
  | .phx => .phx
  | .phy => .phy
  | .pla => .pla
  | .plp => .plp
  | .plx => .plx
  | .ply => .ply
  | .rti => .rti
  | .rts => .rts
  | .bitImm _ => .bit
  | .bitZp _ => .bit
  | .bitZpX _ => .bit
  | .bitAbs _ => .bit
  | .bitAbsX _ => .bit
  | .trbZp _ => .trb
  | .trbAbs _ => .trb
  | .tsbZp _ => .tsb
  | .tsbAbs _ => .tsb
  | .tstImmZp _ _ => .tst
  | .tstImmAbs _ _ => .tst
  | .tstImmZpX _ _ => .tst
  | .tstImmAbsX _ _ => .tst
  | .brk => .brk
  | .nop => .nop
  | .rmb0 _ => .rmb 0
  | .rmb1 _ => .rmb 1
  | .rmb2 _ => .rmb 2
  | .rmb3 _ => .rmb 3
  | .rmb4 _ => .rmb 4
  | .rmb5 _ => .rmb 5
  | .rmb6 _ => .rmb 6
  | .rmb7 _ => .rmb 7
  | .smb0 _ => .smb 0
  | .smb1 _ => .smb 1
  | .smb2 _ => .smb 2
  | .smb3 _ => .smb 3
  | .smb4 _ => .smb 4
  | .smb5 _ => .smb 5
  | .smb6 _ => .smb 6
  | .smb7 _ => .smb 7
  | .csh => .csh
  | .csl => .csl

/-- The format of each instruction with its operands (30_encoding.md R151). -/
def Instr.form : Instr → Form
  | .adcImm nn => .imm nn
  | .adcZp zz => .mem (.zp zz)
  | .adcZpX zz => .mem (.zpX zz)
  | .adcInd zz => .mem (.ind zz)
  | .adcIndX zz => .mem (.indX zz)
  | .adcIndY zz => .mem (.indY zz)
  | .adcAbs hhll => .mem (.abs hhll)
  | .adcAbsX hhll => .mem (.absX hhll)
  | .adcAbsY hhll => .mem (.absY hhll)
  | .andImm nn => .imm nn
  | .andZp zz => .mem (.zp zz)
  | .andZpX zz => .mem (.zpX zz)
  | .andInd zz => .mem (.ind zz)
  | .andIndX zz => .mem (.indX zz)
  | .andIndY zz => .mem (.indY zz)
  | .andAbs hhll => .mem (.abs hhll)
  | .andAbsX hhll => .mem (.absX hhll)
  | .andAbsY hhll => .mem (.absY hhll)
  | .cmpImm nn => .imm nn
  | .cmpZp zz => .mem (.zp zz)
  | .cmpZpX zz => .mem (.zpX zz)
  | .cmpInd zz => .mem (.ind zz)
  | .cmpIndX zz => .mem (.indX zz)
  | .cmpIndY zz => .mem (.indY zz)
  | .cmpAbs hhll => .mem (.abs hhll)
  | .cmpAbsX hhll => .mem (.absX hhll)
  | .cmpAbsY hhll => .mem (.absY hhll)
  | .cpxImm nn => .imm nn
  | .cpxZp zz => .mem (.zp zz)
  | .cpxAbs hhll => .mem (.abs hhll)
  | .cpyImm nn => .imm nn
  | .cpyZp zz => .mem (.zp zz)
  | .cpyAbs hhll => .mem (.abs hhll)
  | .eorImm nn => .imm nn
  | .eorZp zz => .mem (.zp zz)
  | .eorZpX zz => .mem (.zpX zz)
  | .eorInd zz => .mem (.ind zz)
  | .eorIndX zz => .mem (.indX zz)
  | .eorIndY zz => .mem (.indY zz)
  | .eorAbs hhll => .mem (.abs hhll)
  | .eorAbsX hhll => .mem (.absX hhll)
  | .eorAbsY hhll => .mem (.absY hhll)
  | .oraImm nn => .imm nn
  | .oraZp zz => .mem (.zp zz)
  | .oraZpX zz => .mem (.zpX zz)
  | .oraInd zz => .mem (.ind zz)
  | .oraIndX zz => .mem (.indX zz)
  | .oraIndY zz => .mem (.indY zz)
  | .oraAbs hhll => .mem (.abs hhll)
  | .oraAbsX hhll => .mem (.absX hhll)
  | .oraAbsY hhll => .mem (.absY hhll)
  | .sbcImm nn => .imm nn
  | .sbcZp zz => .mem (.zp zz)
  | .sbcZpX zz => .mem (.zpX zz)
  | .sbcInd zz => .mem (.ind zz)
  | .sbcIndX zz => .mem (.indX zz)
  | .sbcIndY zz => .mem (.indY zz)
  | .sbcAbs hhll => .mem (.abs hhll)
  | .sbcAbsX hhll => .mem (.absX hhll)
  | .sbcAbsY hhll => .mem (.absY hhll)
  | .aslAcc => .acc
  | .aslZp zz => .mem (.zp zz)
  | .aslZpX zz => .mem (.zpX zz)
  | .aslAbs hhll => .mem (.abs hhll)
  | .aslAbsX hhll => .mem (.absX hhll)
  | .lsrAcc => .acc
  | .lsrZp zz => .mem (.zp zz)
  | .lsrZpX zz => .mem (.zpX zz)
  | .lsrAbs hhll => .mem (.abs hhll)
  | .lsrAbsX hhll => .mem (.absX hhll)
  | .rolAcc => .acc
  | .rolZp zz => .mem (.zp zz)
  | .rolZpX zz => .mem (.zpX zz)
  | .rolAbs hhll => .mem (.abs hhll)
  | .rolAbsX hhll => .mem (.absX hhll)
  | .rorAcc => .acc
  | .rorZp zz => .mem (.zp zz)
  | .rorZpX zz => .mem (.zpX zz)
  | .rorAbs hhll => .mem (.abs hhll)
  | .rorAbsX hhll => .mem (.absX hhll)
  | .incAcc => .acc
  | .incZp zz => .mem (.zp zz)
  | .incZpX zz => .mem (.zpX zz)
  | .incAbs hhll => .mem (.abs hhll)
  | .incAbsX hhll => .mem (.absX hhll)
  | .decAcc => .acc
  | .decZp zz => .mem (.zp zz)
  | .decZpX zz => .mem (.zpX zz)
  | .decAbs hhll => .mem (.abs hhll)
  | .decAbsX hhll => .mem (.absX hhll)
  | .inx => .imp
  | .iny => .imp
  | .dex => .imp
  | .dey => .imp
  | .cla => .imp
  | .clx => .imp
  | .cly => .imp
  | .clc => .imp
  | .cld => .imp
  | .cli => .imp
  | .clv => .imp
  | .sec => .imp
  | .sed => .imp
  | .sei => .imp
  | .setT => .imp
  | .ldaImm nn => .imm nn
  | .ldaZp zz => .mem (.zp zz)
  | .ldaZpX zz => .mem (.zpX zz)
  | .ldaInd zz => .mem (.ind zz)
  | .ldaIndX zz => .mem (.indX zz)
  | .ldaIndY zz => .mem (.indY zz)
  | .ldaAbs hhll => .mem (.abs hhll)
  | .ldaAbsX hhll => .mem (.absX hhll)
  | .ldaAbsY hhll => .mem (.absY hhll)
  | .ldxImm nn => .imm nn
  | .ldxZp zz => .mem (.zp zz)
  | .ldxZpY zz => .mem (.zpY zz)
  | .ldxAbs hhll => .mem (.abs hhll)
  | .ldxAbsY hhll => .mem (.absY hhll)
  | .ldyImm nn => .imm nn
  | .ldyZp zz => .mem (.zp zz)
  | .ldyZpX zz => .mem (.zpX zz)
  | .ldyAbs hhll => .mem (.abs hhll)
  | .ldyAbsX hhll => .mem (.absX hhll)
  | .staZp zz => .mem (.zp zz)
  | .staZpX zz => .mem (.zpX zz)
  | .staInd zz => .mem (.ind zz)
  | .staIndX zz => .mem (.indX zz)
  | .staIndY zz => .mem (.indY zz)
  | .staAbs hhll => .mem (.abs hhll)
  | .staAbsX hhll => .mem (.absX hhll)
  | .staAbsY hhll => .mem (.absY hhll)
  | .stxZp zz => .mem (.zp zz)
  | .stxZpY zz => .mem (.zpY zz)
  | .stxAbs hhll => .mem (.abs hhll)
  | .styZp zz => .mem (.zp zz)
  | .styZpX zz => .mem (.zpX zz)
  | .styAbs hhll => .mem (.abs hhll)
  | .stzZp zz => .mem (.zp zz)
  | .stzZpX zz => .mem (.zpX zz)
  | .stzAbs hhll => .mem (.abs hhll)
  | .stzAbsX hhll => .mem (.absX hhll)
  | .sax => .imp
  | .say => .imp
  | .sxy => .imp
  | .tax => .imp
  | .tay => .imp
  | .tsx => .imp
  | .txa => .imp
  | .txs => .imp
  | .tya => .imp
  | .st0 nn => .imm nn
  | .st1 nn => .imm nn
  | .st2 nn => .imm nn
  | .tam mask => .mpr mask
  | .tma mask => .mpr mask
  | .tii ssss dddd llll => .blk ssss dddd llll
  | .tdd ssss dddd llll => .blk ssss dddd llll
  | .tin ssss dddd llll => .blk ssss dddd llll
  | .tia ssss dddd llll => .blk ssss dddd llll
  | .tai ssss dddd llll => .blk ssss dddd llll
  | .bbr0 zz rr => .zpRel zz rr
  | .bbr1 zz rr => .zpRel zz rr
  | .bbr2 zz rr => .zpRel zz rr
  | .bbr3 zz rr => .zpRel zz rr
  | .bbr4 zz rr => .zpRel zz rr
  | .bbr5 zz rr => .zpRel zz rr
  | .bbr6 zz rr => .zpRel zz rr
  | .bbr7 zz rr => .zpRel zz rr
  | .bbs0 zz rr => .zpRel zz rr
  | .bbs1 zz rr => .zpRel zz rr
  | .bbs2 zz rr => .zpRel zz rr
  | .bbs3 zz rr => .zpRel zz rr
  | .bbs4 zz rr => .zpRel zz rr
  | .bbs5 zz rr => .zpRel zz rr
  | .bbs6 zz rr => .zpRel zz rr
  | .bbs7 zz rr => .zpRel zz rr
  | .bcc rr => .rel rr
  | .bcs rr => .rel rr
  | .beq rr => .rel rr
  | .bmi rr => .rel rr
  | .bne rr => .rel rr
  | .bpl rr => .rel rr
  | .bra rr => .rel rr
  | .bvc rr => .rel rr
  | .bvs rr => .rel rr
  | .jmpAbs hhll => .mem (.abs hhll)
  | .jmpAbsInd hhll => .absInd hhll
  | .jmpAbsXInd hhll => .absXInd hhll
  | .bsr rr => .rel rr
  | .jsr hhll => .mem (.abs hhll)
  | .pha => .imp
  | .php => .imp
  | .phx => .imp
  | .phy => .imp
  | .pla => .imp
  | .plp => .imp
  | .plx => .imp
  | .ply => .imp
  | .rti => .imp
  | .rts => .imp
  | .bitImm nn => .imm nn
  | .bitZp zz => .mem (.zp zz)
  | .bitZpX zz => .mem (.zpX zz)
  | .bitAbs hhll => .mem (.abs hhll)
  | .bitAbsX hhll => .mem (.absX hhll)
  | .trbZp zz => .mem (.zp zz)
  | .trbAbs hhll => .mem (.abs hhll)
  | .tsbZp zz => .mem (.zp zz)
  | .tsbAbs hhll => .mem (.abs hhll)
  | .tstImmZp nn zz => .immMem nn (.zp zz)
  | .tstImmAbs nn hhll => .immMem nn (.abs hhll)
  | .tstImmZpX nn zz => .immMem nn (.zpX zz)
  | .tstImmAbsX nn hhll => .immMem nn (.absX hhll)
  | .brk => .imp
  | .nop => .imp
  | .rmb0 zz => .mem (.zp zz)
  | .rmb1 zz => .mem (.zp zz)
  | .rmb2 zz => .mem (.zp zz)
  | .rmb3 zz => .mem (.zp zz)
  | .rmb4 zz => .mem (.zp zz)
  | .rmb5 zz => .mem (.zp zz)
  | .rmb6 zz => .mem (.zp zz)
  | .rmb7 zz => .mem (.zp zz)
  | .smb0 zz => .mem (.zp zz)
  | .smb1 zz => .mem (.zp zz)
  | .smb2 zz => .mem (.zp zz)
  | .smb3 zz => .mem (.zp zz)
  | .smb4 zz => .mem (.zp zz)
  | .smb5 zz => .mem (.zp zz)
  | .smb6 zz => .mem (.zp zz)
  | .smb7 zz => .mem (.zp zz)
  | .csh => .imp
  | .csl => .imp

/-- How many operand bytes an addressing mode has after the opcode (30_encoding.md R151). -/
def Ea.size : Ea → Nat
  | .zp _ | .zpX _ | .zpY _ | .ind _ | .indX _ | .indY _ => 1
  | .abs _ | .absX _ | .absY _ => 2

/-- The length in bytes of an instruction of a format (30_encoding.md R151). -/
def Form.length : Form → Nat
  | .imp | .acc => 1
  | .mpr _ | .imm _ | .rel _ => 2
  | .blk _ _ _ => 7
  | .mem ea => 1 + ea.size
  | .immMem _ ea => 2 + ea.size
  | .zpRel _ _ | .absInd _ | .absXInd _ => 3

/-- The format of an instruction that reads its operand from a source. -/
def Source.form : Source → Form
  | .imm nn => .imm nn
  | .mem ea => .mem ea

/-- The length in bytes of an instruction (30_encoding.md R151). -/
def Instr.length (i : Instr) : Nat := i.form.length

end Sys2Proof
end

