-- ==== Sys2Proof/WellFormed.lean ====
section
/-!
DEFINITION. The well-formed instructions. Every operand of every format is a byte or a word of its own
width, and every value of it is legal (30_encoding.md R174), but for one: the mask of TMA selects at
most one mapping register (43_data_transfer.md R320).
-/

namespace Sys2Proof

/-- At most one bit of the byte is 1. -/
def atMostOneBit (mask : Byte) : Bool := mask &&& (mask - 1) == 0

/-- The check of an instruction's operands: TMA with two or more mask bits set is the one ill-formed
instruction ("Undefined behavior results if multiple bits are set", 43_data_transfer.md R320). -/
def Instr.wf : Instr → Bool
  | .tma mask => atMostOneBit mask
  | _ => true

end Sys2Proof
end

