-- ==== Sys2Proof/Decode.lean ====
section
/-!
DEFINITION. The decoder, total on any bytes and rejecting by name, and after it the encoder, both
written from the opcode map of 30_encoding.md R175 and the formats of R151 to R174. The byte-order
helpers stand here too (20_memory.md R108, 30_encoding.md R174).
-/

namespace Sys2Proof

/-- The low byte of a word. -/
def loByte (w : Word) : Byte := w.extractLsb' 0 8

/-- The high byte of a word. -/
def hiByte (w : Word) : Byte := w.extractLsb' 8 8

/-- `{hi, lo}`: the word with the given high and low bytes (00_scope.md R6). -/
def joinBytes (hi lo : Byte) : Word := hi ++ lo

/-- One cell of the opcode map: how the operand bytes that follow the opcode make an instruction.
`undef` marks an undefined opcode byte (30_encoding.md R176). -/
inductive OpcodeCell where
  | undef
  | op0 (i : Instr)
  | op1 (f : Byte → Instr)
  | op2 (f : Byte → Byte → Instr)
  | opW (f : Word → Instr)
  | opBW (f : Byte → Word → Instr)
  | opBlk (f : Word → Word → Word → Instr)

/-- How many operand bytes follow the opcode byte of a cell; none for an undefined byte. -/
def OpcodeCell.operandBytes : OpcodeCell → Option Nat
  | .undef => none
  | .op0 _ => some 0
  | .op1 _ => some 1
  | .op2 _ | .opW _ => some 2
  | .opBW _ => some 3
  | .opBlk _ => some 6

/-- Reads the operand bytes of a cell off the front of a list, 16-bit operands low byte first
(30_encoding.md R174); none where the cell is undefined or the list too short. -/
def OpcodeCell.build : OpcodeCell → List Byte → Option (Instr × List Byte)
  | .op0 i, rest => some (i, rest)
  | .op1 f, b :: rest => some (f b, rest)
  | .op2 f, b :: c :: rest => some (f b c, rest)
  | .opW f, lo :: hi :: rest => some (f (joinBytes hi lo), rest)
  | .opBW f, b :: lo :: hi :: rest => some (f b (joinBytes hi lo), rest)
  | .opBlk f, sl :: sh :: dl :: dh :: ll :: lh :: rest =>
    some (f (joinBytes sh sl) (joinBytes dh dl) (joinBytes lh ll), rest)
  | _, _ => none

/-- Row 0x of the opcode map (30_encoding.md R175). -/
def opcodeRow0 : List OpcodeCell :=
  [.op0 .brk, .op1 .oraIndX, .op0 .sxy, .op1 .st0,
   .op1 .tsbZp, .op1 .oraZp, .op1 .aslZp, .op1 .rmb0,
   .op0 .php, .op1 .oraImm, .op0 .aslAcc, .undef,
   .opW .tsbAbs, .opW .oraAbs, .opW .aslAbs, .op2 .bbr0]

/-- Row 1x of the opcode map (30_encoding.md R175). -/
def opcodeRow1 : List OpcodeCell :=
  [.op1 .bpl, .op1 .oraIndY, .op1 .oraInd, .op1 .st1,
   .op1 .trbZp, .op1 .oraZpX, .op1 .aslZpX, .op1 .rmb1,
   .op0 .clc, .opW .oraAbsY, .op0 .incAcc, .undef,
   .opW .trbAbs, .opW .oraAbsX, .opW .aslAbsX, .op2 .bbr1]

/-- Row 2x of the opcode map (30_encoding.md R175). -/
def opcodeRow2 : List OpcodeCell :=
  [.opW .jsr, .op1 .andIndX, .op0 .sax, .op1 .st2,
   .op1 .bitZp, .op1 .andZp, .op1 .rolZp, .op1 .rmb2,
   .op0 .plp, .op1 .andImm, .op0 .rolAcc, .undef,
   .opW .bitAbs, .opW .andAbs, .opW .rolAbs, .op2 .bbr2]

/-- Row 3x of the opcode map (30_encoding.md R175). -/
def opcodeRow3 : List OpcodeCell :=
  [.op1 .bmi, .op1 .andIndY, .op1 .andInd, .undef,
   .op1 .bitZpX, .op1 .andZpX, .op1 .rolZpX, .op1 .rmb3,
   .op0 .sec, .opW .andAbsY, .op0 .decAcc, .undef,
   .opW .bitAbsX, .opW .andAbsX, .opW .rolAbsX, .op2 .bbr3]

/-- Row 4x of the opcode map (30_encoding.md R175). -/
def opcodeRow4 : List OpcodeCell :=
  [.op0 .rti, .op1 .eorIndX, .op0 .say, .op1 .tma,
   .op1 .bsr, .op1 .eorZp, .op1 .lsrZp, .op1 .rmb4,
   .op0 .pha, .op1 .eorImm, .op0 .lsrAcc, .undef,
   .opW .jmpAbs, .opW .eorAbs, .opW .lsrAbs, .op2 .bbr4]

/-- Row 5x of the opcode map (30_encoding.md R175). -/
def opcodeRow5 : List OpcodeCell :=
  [.op1 .bvc, .op1 .eorIndY, .op1 .eorInd, .op1 .tam,
   .op0 .csl, .op1 .eorZpX, .op1 .lsrZpX, .op1 .rmb5,
   .op0 .cli, .opW .eorAbsY, .op0 .phy, .undef,
   .undef, .opW .eorAbsX, .opW .lsrAbsX, .op2 .bbr5]

/-- Row 6x of the opcode map (30_encoding.md R175). -/
def opcodeRow6 : List OpcodeCell :=
  [.op0 .rts, .op1 .adcIndX, .op0 .cla, .undef,
   .op1 .stzZp, .op1 .adcZp, .op1 .rorZp, .op1 .rmb6,
   .op0 .pla, .op1 .adcImm, .op0 .rorAcc, .undef,
   .opW .jmpAbsInd, .opW .adcAbs, .opW .rorAbs, .op2 .bbr6]

/-- Row 7x of the opcode map (30_encoding.md R175). -/
def opcodeRow7 : List OpcodeCell :=
  [.op1 .bvs, .op1 .adcIndY, .op1 .adcInd, .opBlk .tii,
   .op1 .stzZpX, .op1 .adcZpX, .op1 .rorZpX, .op1 .rmb7,
   .op0 .sei, .opW .adcAbsY, .op0 .ply, .undef,
   .opW .jmpAbsXInd, .opW .adcAbsX, .opW .rorAbsX, .op2 .bbr7]

/-- Row 8x of the opcode map (30_encoding.md R175). -/
def opcodeRow8 : List OpcodeCell :=
  [.op1 .bra, .op1 .staIndX, .op0 .clx, .op2 .tstImmZp,
   .op1 .styZp, .op1 .staZp, .op1 .stxZp, .op1 .smb0,
   .op0 .dey, .op1 .bitImm, .op0 .txa, .undef,
   .opW .styAbs, .opW .staAbs, .opW .stxAbs, .op2 .bbs0]

/-- Row 9x of the opcode map (30_encoding.md R175). -/
def opcodeRow9 : List OpcodeCell :=
  [.op1 .bcc, .op1 .staIndY, .op1 .staInd, .opBW .tstImmAbs,
   .op1 .styZpX, .op1 .staZpX, .op1 .stxZpY, .op1 .smb1,
   .op0 .tya, .opW .staAbsY, .op0 .txs, .undef,
   .opW .stzAbs, .opW .staAbsX, .opW .stzAbsX, .op2 .bbs1]

/-- Row Ax of the opcode map (30_encoding.md R175). -/
def opcodeRowA : List OpcodeCell :=
  [.op1 .ldyImm, .op1 .ldaIndX, .op1 .ldxImm, .op2 .tstImmZpX,
   .op1 .ldyZp, .op1 .ldaZp, .op1 .ldxZp, .op1 .smb2,
   .op0 .tay, .op1 .ldaImm, .op0 .tax, .undef,
   .opW .ldyAbs, .opW .ldaAbs, .opW .ldxAbs, .op2 .bbs2]

/-- Row Bx of the opcode map (30_encoding.md R175). -/
def opcodeRowB : List OpcodeCell :=
  [.op1 .bcs, .op1 .ldaIndY, .op1 .ldaInd, .opBW .tstImmAbsX,
   .op1 .ldyZpX, .op1 .ldaZpX, .op1 .ldxZpY, .op1 .smb3,
   .op0 .clv, .opW .ldaAbsY, .op0 .tsx, .undef,
   .opW .ldyAbsX, .opW .ldaAbsX, .opW .ldxAbsY, .op2 .bbs3]

/-- Row Cx of the opcode map (30_encoding.md R175). -/
def opcodeRowC : List OpcodeCell :=
  [.op1 .cpyImm, .op1 .cmpIndX, .op0 .cly, .opBlk .tdd,
   .op1 .cpyZp, .op1 .cmpZp, .op1 .decZp, .op1 .smb4,
   .op0 .iny, .op1 .cmpImm, .op0 .dex, .undef,
   .opW .cpyAbs, .opW .cmpAbs, .opW .decAbs, .op2 .bbs4]

/-- Row Dx of the opcode map (30_encoding.md R175). -/
def opcodeRowD : List OpcodeCell :=
  [.op1 .bne, .op1 .cmpIndY, .op1 .cmpInd, .opBlk .tin,
   .op0 .csh, .op1 .cmpZpX, .op1 .decZpX, .op1 .smb5,
   .op0 .cld, .opW .cmpAbsY, .op0 .phx, .undef,
   .undef, .opW .cmpAbsX, .opW .decAbsX, .op2 .bbs5]

/-- Row Ex of the opcode map (30_encoding.md R175). -/
def opcodeRowE : List OpcodeCell :=
  [.op1 .cpxImm, .op1 .sbcIndX, .undef, .opBlk .tia,
   .op1 .cpxZp, .op1 .sbcZp, .op1 .incZp, .op1 .smb6,
   .op0 .inx, .op1 .sbcImm, .op0 .nop, .undef,
   .opW .cpxAbs, .opW .sbcAbs, .opW .incAbs, .op2 .bbs6]

/-- Row Fx of the opcode map (30_encoding.md R175). -/
def opcodeRowF : List OpcodeCell :=
  [.op1 .beq, .op1 .sbcIndY, .op1 .sbcInd, .opBlk .tai,
   .op0 .setT, .op1 .sbcZpX, .op1 .incZpX, .op1 .smb7,
   .op0 .sed, .opW .sbcAbsY, .op0 .plx, .undef,
   .undef, .opW .sbcAbsX, .opW .incAbsX, .op2 .bbs7]

/-- The opcode map, rows by high nibble (30_encoding.md R175). -/
def opcodeMap : List (List OpcodeCell) :=
  [opcodeRow0, opcodeRow1, opcodeRow2, opcodeRow3, opcodeRow4, opcodeRow5, opcodeRow6, opcodeRow7] ++
  [opcodeRow8, opcodeRow9, opcodeRowA, opcodeRowB, opcodeRowC, opcodeRowD, opcodeRowE, opcodeRowF]

/-- The cell of an opcode byte: row by its high nibble, column by its low nibble. -/
def opcodeCell (op : Byte) : OpcodeCell :=
  (opcodeMap.getD (op.toNat / 16) []).getD (op.toNat % 16) .undef

/-- Why bytes are no instruction. -/
inductive DecodeError where
  /-- The byte is one of the 22 undefined opcode bytes (30_encoding.md R176). -/
  | illegalOpcode (op : Byte)
  /-- There are fewer bytes than the instruction has. -/
  | truncated
deriving DecidableEq, Repr

/-- Decodes the instruction at the front of a list of bytes and answers the bytes after it
(30_encoding.md R150, R151). -/
def decode : List Byte → Except DecodeError (Instr × List Byte)
  | [] => .error .truncated
  | op :: rest =>
    match (opcodeCell op).operandBytes with
    | none => .error (.illegalOpcode op)
    | some _ =>
      match (opcodeCell op).build rest with
      | some r => .ok r
      | none => .error .truncated

/-- The bytes of a number, lowest first: how a number of the opcode table lies in memory. -/
def bytesOfNat : Nat → Nat → List Byte
  | 0, _ => []
  | n + 1, w => BitVec.ofNat 8 w :: bytesOfNat n (w / 256)

/-- The seven bytes an instruction of the opcode table occupies at most: the low `nbits` bits of `w`,
every bit above them zero. -/
def tableWordBytes (nbits w : Nat) : List Byte := bytesOfNat 7 (w % 2 ^ nbits)

/-- The instruction the decoder reads from a word of the opcode table. -/
def decodeTableWord (nbits w : Nat) : Option Instr :=
  match decode (tableWordBytes nbits w) with
  | .ok (i, _) => some i
  | .error _ => none

/-! The encoder. -/

/-- The opcode byte of each instruction (30_encoding.md R175). -/
def Instr.opcode : Instr → Byte
  | .adcImm _ => 0x69#8
  | .adcZp _ => 0x65#8
  | .adcZpX _ => 0x75#8
  | .adcInd _ => 0x72#8
  | .adcIndX _ => 0x61#8
  | .adcIndY _ => 0x71#8
  | .adcAbs _ => 0x6D#8
  | .adcAbsX _ => 0x7D#8
  | .adcAbsY _ => 0x79#8
  | .andImm _ => 0x29#8
  | .andZp _ => 0x25#8
  | .andZpX _ => 0x35#8
  | .andInd _ => 0x32#8
  | .andIndX _ => 0x21#8
  | .andIndY _ => 0x31#8
  | .andAbs _ => 0x2D#8
  | .andAbsX _ => 0x3D#8
  | .andAbsY _ => 0x39#8
  | .cmpImm _ => 0xC9#8
  | .cmpZp _ => 0xC5#8
  | .cmpZpX _ => 0xD5#8
  | .cmpInd _ => 0xD2#8
  | .cmpIndX _ => 0xC1#8
  | .cmpIndY _ => 0xD1#8
  | .cmpAbs _ => 0xCD#8
  | .cmpAbsX _ => 0xDD#8
  | .cmpAbsY _ => 0xD9#8
  | .cpxImm _ => 0xE0#8
  | .cpxZp _ => 0xE4#8
  | .cpxAbs _ => 0xEC#8
  | .cpyImm _ => 0xC0#8
  | .cpyZp _ => 0xC4#8
  | .cpyAbs _ => 0xCC#8
  | .eorImm _ => 0x49#8
  | .eorZp _ => 0x45#8
  | .eorZpX _ => 0x55#8
  | .eorInd _ => 0x52#8
  | .eorIndX _ => 0x41#8
  | .eorIndY _ => 0x51#8
  | .eorAbs _ => 0x4D#8
  | .eorAbsX _ => 0x5D#8
  | .eorAbsY _ => 0x59#8
  | .oraImm _ => 0x09#8
  | .oraZp _ => 0x05#8
  | .oraZpX _ => 0x15#8
  | .oraInd _ => 0x12#8
  | .oraIndX _ => 0x01#8
  | .oraIndY _ => 0x11#8
  | .oraAbs _ => 0x0D#8
  | .oraAbsX _ => 0x1D#8
  | .oraAbsY _ => 0x19#8
  | .sbcImm _ => 0xE9#8
  | .sbcZp _ => 0xE5#8
  | .sbcZpX _ => 0xF5#8
  | .sbcInd _ => 0xF2#8
  | .sbcIndX _ => 0xE1#8
  | .sbcIndY _ => 0xF1#8
  | .sbcAbs _ => 0xED#8
  | .sbcAbsX _ => 0xFD#8
  | .sbcAbsY _ => 0xF9#8
  | .aslAcc => 0x0A#8
  | .aslZp _ => 0x06#8
  | .aslZpX _ => 0x16#8
  | .aslAbs _ => 0x0E#8
  | .aslAbsX _ => 0x1E#8
  | .lsrAcc => 0x4A#8
  | .lsrZp _ => 0x46#8
  | .lsrZpX _ => 0x56#8
  | .lsrAbs _ => 0x4E#8
  | .lsrAbsX _ => 0x5E#8
  | .rolAcc => 0x2A#8
  | .rolZp _ => 0x26#8
  | .rolZpX _ => 0x36#8
  | .rolAbs _ => 0x2E#8
  | .rolAbsX _ => 0x3E#8
  | .rorAcc => 0x6A#8
  | .rorZp _ => 0x66#8
  | .rorZpX _ => 0x76#8
  | .rorAbs _ => 0x6E#8
  | .rorAbsX _ => 0x7E#8
  | .incAcc => 0x1A#8
  | .incZp _ => 0xE6#8
  | .incZpX _ => 0xF6#8
  | .incAbs _ => 0xEE#8
  | .incAbsX _ => 0xFE#8
  | .decAcc => 0x3A#8
  | .decZp _ => 0xC6#8
  | .decZpX _ => 0xD6#8
  | .decAbs _ => 0xCE#8
  | .decAbsX _ => 0xDE#8
  | .inx => 0xE8#8
  | .iny => 0xC8#8
  | .dex => 0xCA#8
  | .dey => 0x88#8
  | .cla => 0x62#8
  | .clx => 0x82#8
  | .cly => 0xC2#8
  | .clc => 0x18#8
  | .cld => 0xD8#8
  | .cli => 0x58#8
  | .clv => 0xB8#8
  | .sec => 0x38#8
  | .sed => 0xF8#8
  | .sei => 0x78#8
  | .setT => 0xF4#8
  | .ldaImm _ => 0xA9#8
  | .ldaZp _ => 0xA5#8
  | .ldaZpX _ => 0xB5#8
  | .ldaInd _ => 0xB2#8
  | .ldaIndX _ => 0xA1#8
  | .ldaIndY _ => 0xB1#8
  | .ldaAbs _ => 0xAD#8
  | .ldaAbsX _ => 0xBD#8
  | .ldaAbsY _ => 0xB9#8
  | .ldxImm _ => 0xA2#8
  | .ldxZp _ => 0xA6#8
  | .ldxZpY _ => 0xB6#8
  | .ldxAbs _ => 0xAE#8
  | .ldxAbsY _ => 0xBE#8
  | .ldyImm _ => 0xA0#8
  | .ldyZp _ => 0xA4#8
  | .ldyZpX _ => 0xB4#8
  | .ldyAbs _ => 0xAC#8
  | .ldyAbsX _ => 0xBC#8
  | .staZp _ => 0x85#8
  | .staZpX _ => 0x95#8
  | .staInd _ => 0x92#8
  | .staIndX _ => 0x81#8
  | .staIndY _ => 0x91#8
  | .staAbs _ => 0x8D#8
  | .staAbsX _ => 0x9D#8
  | .staAbsY _ => 0x99#8
  | .stxZp _ => 0x86#8
  | .stxZpY _ => 0x96#8
  | .stxAbs _ => 0x8E#8
  | .styZp _ => 0x84#8
  | .styZpX _ => 0x94#8
  | .styAbs _ => 0x8C#8
  | .stzZp _ => 0x64#8
  | .stzZpX _ => 0x74#8
  | .stzAbs _ => 0x9C#8
  | .stzAbsX _ => 0x9E#8
  | .sax => 0x22#8
  | .say => 0x42#8
  | .sxy => 0x02#8
  | .tax => 0xAA#8
  | .tay => 0xA8#8
  | .tsx => 0xBA#8
  | .txa => 0x8A#8
  | .txs => 0x9A#8
  | .tya => 0x98#8
  | .st0 _ => 0x03#8
  | .st1 _ => 0x13#8
  | .st2 _ => 0x23#8
  | .tam _ => 0x53#8
  | .tma _ => 0x43#8
  | .tii _ _ _ => 0x73#8
  | .tdd _ _ _ => 0xC3#8
  | .tin _ _ _ => 0xD3#8
  | .tia _ _ _ => 0xE3#8
  | .tai _ _ _ => 0xF3#8
  | .bbr0 _ _ => 0x0F#8
  | .bbr1 _ _ => 0x1F#8
  | .bbr2 _ _ => 0x2F#8
  | .bbr3 _ _ => 0x3F#8
  | .bbr4 _ _ => 0x4F#8
  | .bbr5 _ _ => 0x5F#8
  | .bbr6 _ _ => 0x6F#8
  | .bbr7 _ _ => 0x7F#8
  | .bbs0 _ _ => 0x8F#8
  | .bbs1 _ _ => 0x9F#8
  | .bbs2 _ _ => 0xAF#8
  | .bbs3 _ _ => 0xBF#8
  | .bbs4 _ _ => 0xCF#8
  | .bbs5 _ _ => 0xDF#8
  | .bbs6 _ _ => 0xEF#8
  | .bbs7 _ _ => 0xFF#8
  | .bcc _ => 0x90#8
  | .bcs _ => 0xB0#8
  | .beq _ => 0xF0#8
  | .bmi _ => 0x30#8
  | .bne _ => 0xD0#8
  | .bpl _ => 0x10#8
  | .bra _ => 0x80#8
  | .bvc _ => 0x50#8
  | .bvs _ => 0x70#8
  | .jmpAbs _ => 0x4C#8
  | .jmpAbsInd _ => 0x6C#8
  | .jmpAbsXInd _ => 0x7C#8
  | .bsr _ => 0x44#8
  | .jsr _ => 0x20#8
  | .pha => 0x48#8
  | .php => 0x08#8
  | .phx => 0xDA#8
  | .phy => 0x5A#8
  | .pla => 0x68#8
  | .plp => 0x28#8
  | .plx => 0xFA#8
  | .ply => 0x7A#8
  | .rti => 0x40#8
  | .rts => 0x60#8
  | .bitImm _ => 0x89#8
  | .bitZp _ => 0x24#8
  | .bitZpX _ => 0x34#8
  | .bitAbs _ => 0x2C#8
  | .bitAbsX _ => 0x3C#8
  | .trbZp _ => 0x14#8
  | .trbAbs _ => 0x1C#8
  | .tsbZp _ => 0x04#8
  | .tsbAbs _ => 0x0C#8
  | .tstImmZp _ _ => 0x83#8
  | .tstImmAbs _ _ => 0x93#8
  | .tstImmZpX _ _ => 0xA3#8
  | .tstImmAbsX _ _ => 0xB3#8
  | .brk => 0x00#8
  | .nop => 0xEA#8
  | .rmb0 _ => 0x07#8
  | .rmb1 _ => 0x17#8
  | .rmb2 _ => 0x27#8
  | .rmb3 _ => 0x37#8
  | .rmb4 _ => 0x47#8
  | .rmb5 _ => 0x57#8
  | .rmb6 _ => 0x67#8
  | .rmb7 _ => 0x77#8
  | .smb0 _ => 0x87#8
  | .smb1 _ => 0x97#8
  | .smb2 _ => 0xA7#8
  | .smb3 _ => 0xB7#8
  | .smb4 _ => 0xC7#8
  | .smb5 _ => 0xD7#8
  | .smb6 _ => 0xE7#8
  | .smb7 _ => 0xF7#8
  | .csh => 0xD4#8
  | .csl => 0x54#8

/-- A 16-bit operand as it is stored, low byte first (20_memory.md R108). -/
def wordBytes (w : Word) : List Byte := [loByte w, hiByte w]

/-- The operand bytes of an addressing mode. -/
def Ea.bytes : Ea → List Byte
  | .zp zz | .zpX zz | .zpY zz | .ind zz | .indX zz | .indY zz => [zz]
  | .abs hhll | .absX hhll | .absY hhll => wordBytes hhll

/-- The operand bytes of a format (30_encoding.md R152 to R173). -/
def Form.bytes : Form → List Byte
  | .imp | .acc => []
  | .mpr mask => [mask]
  | .blk ssss dddd llll => wordBytes ssss ++ wordBytes dddd ++ wordBytes llll
  | .imm nn => [nn]
  | .mem ea => ea.bytes
  | .immMem nn ea => nn :: ea.bytes
  | .zpRel zz rr => [zz, rr]
  | .absInd hhll | .absXInd hhll => wordBytes hhll
  | .rel rr => [rr]

/-- The bytes of an instruction, the opcode first (30_encoding.md R150). -/
def encode (i : Instr) : List Byte := i.opcode :: i.form.bytes

/-- The 22 undefined opcode bytes (30_encoding.md R176). -/
def undefinedOpcodes : List Byte :=
  [0x0B#8, 0x1B#8, 0x2B#8, 0x33#8, 0x3B#8, 0x4B#8, 0x5B#8, 0x5C#8, 0x63#8, 0x6B#8, 0x7B#8] ++
  [0x8B#8, 0x9B#8, 0xAB#8, 0xBB#8, 0xCB#8, 0xDB#8, 0xDC#8, 0xE2#8, 0xEB#8, 0xFB#8, 0xFC#8]

end Sys2Proof
end

