-- ==== Sys2Proof/Machine/Memory.lean ====
section
/-!
DEFINITION. Memory as a list of (address, byte) pairs in canonical form: reading, writing, the check.
-/

namespace Sys2Proof.Machine

/-- The byte at an address; an unlisted address reads `Config.unlistedByte` (log 1). -/
def Memory.read : Memory → Nat → Byte
  | [], _ => Config.unlistedByte
  | (a, v) :: m, k => if a = k then v else Memory.read m k

/-- Puts an entry in front of a memory, unless it is what an unlisted address reads as. -/
def Memory.cons (k : Nat) (v : Byte) (m : Memory) : Memory :=
  if v = Config.unlistedByte then m else (k, v) :: m

/-- Writes a byte, keeping the addresses rising and dropping an entry that would read the same
unlisted. -/
def Memory.write : Memory → Nat → Byte → Memory
  | [], k, v => Memory.cons k v []
  | (a, w) :: m, k, v =>
    if k < a then Memory.cons k v ((a, w) :: m)
    else if k = a then Memory.cons k v m
    else (a, w) :: Memory.write m k v

/-- The canonical form: addresses strictly rising, no entry equal to what an unlisted address reads
as. -/
def Memory.wf : Memory → Bool
  | [] => true
  | (a, v) :: m => v != Config.unlistedByte && m.all (fun c => decide (a < c.1)) && Memory.wf m

/-- Every listed address is below a bound. -/
def Memory.below (bound : Nat) (m : Memory) : Bool := m.all fun c => decide (c.1 < bound)

end Sys2Proof.Machine
end

