-- ==== Sys2Proof/Machine/Bus.lean ====
section
/-!
DEFINITION. The bus: the environment's events and the timer, translation of logical addresses, the
physical address map, and one-byte reads and writes (20_memory.md, 60_exceptions.md R501 to R503 and
R530 to R541).
-/

namespace Sys2Proof.Machine

/-! The timer and the environment. -/

/-- One tick of the down-counter: a borrow at 0 sets TIQ and reloads (60_exceptions.md R531). -/
def Io.tick (io : Io) : Io :=
  if io.timer.counter = 0 then
    { io with tiq := true, timer := { io.timer with counter := io.timer.reload } }
  else
    { io with timer := { io.timer with counter := io.timer.counter - 1 } }

/-- So many ticks. -/
def Io.ticks : Nat → Io → Io
  | 0, io => io
  | n + 1, io => Io.ticks n io.tick

/-- Periods of PPS3 pass: while the timer runs the prescaler counts them and every 1024th is a tick;
while it is stopped nothing ticks (60_exceptions.md R531). -/
def Io.clock (periods : Nat) (io : Io) : Io :=
  if io.timer.start then
    let total := io.timer.prescaler.toNat + periods
    let io := Io.ticks (total / 1024) io
    { io with timer := { io.timer with prescaler := BitVec.ofNat 10 total } }
  else io

/-- One event of the environment. An H-to-L change of NMI sets the latch (60_exceptions.md R512). -/
def Io.apply (io : Io) : EnvEvent → Io
  | .nmiPin l =>
    { io with
      pins := { io.pins with nmi := l }
      nmiPending := io.nmiPending || (io.pins.nmi == .high && l == .low) }
  | .irq1Pin l => { io with pins := { io.pins with irq1 := l } }
  | .irq2Pin l => { io with pins := { io.pins with irq2 := l } }
  | .portK v => { io with pins := { io.pins with k := v } }
  | .clock periods => io.clock periods
  | .readGlitch => { io with glitch := true }
  | .resetPulse => { io with resetPending := true }

/-- The timer's clock once the schedule has ended: while the timer runs, after a free number of points at
which the environment can act, a free number of periods passes, never none, and so on for ever
(60_exceptions.md R531: ticks keep coming; log 18). A count that falls then may be marked. -/
def Io.idleClock (io : Io) : Io :=
  if io.timer.start then
    if io.clockWait = 0 then
      let periods := Config.idlePeriods io.freeCount + 1
      Io.clock periods { io with
        clockWait := Config.idleWait io.freeCount
        glitch := Config.idleMark io.freeCount &&
          decide (1024 ≤ io.timer.prescaler.toNat + periods)
        freeCount := io.freeCount + 1 }
    else { io with clockWait := io.clockWait - 1 }
  else io

/-- The environment acts: the next batch of the schedule happens; when none is left, the timer's clock runs
on by itself. A mark of an earlier access is gone (log 5, log 11). -/
def Io.elapse (io : Io) : Io :=
  match io.schedule with
  | [] => Io.idleClock { io with glitch := false }
  | batch :: rest => batch.foldl Io.apply { io with glitch := false, schedule := rest }

/-- The environment acts on the machine. It reaches block $FF and the pins only. -/
def State.elapse (s : State) : State := { s with io := s.io.elapse }

/-! Translation. -/

/-- The mapping register of a number (10_state.md R46). -/
def Mpr.get (m : Mpr) (i : Fin 8) : Byte :=
  match i with
  | 0 => m.m0
  | 1 => m.m1
  | 2 => m.m2
  | 3 => m.m3
  | 4 => m.m4
  | 5 => m.m5
  | 6 => m.m6
  | 7 => m.m7

/-- Writes a byte to every mapping register whose bit of the mask is 1 (43_data_transfer.md R319). -/
def Mpr.load (m : Mpr) (mask v : Byte) : Mpr :=
  { m0 := if mask.getLsbD 0 then v else m.m0
    m1 := if mask.getLsbD 1 then v else m.m1
    m2 := if mask.getLsbD 2 then v else m.m2
    m3 := if mask.getLsbD 3 then v else m.m3
    m4 := if mask.getLsbD 4 then v else m.m4
    m5 := if mask.getLsbD 5 then v else m.m5
    m6 := if mask.getLsbD 6 then v else m.m6
    m7 := if mask.getLsbD 7 then v else m.m7 }

/-- `translate(la) = (MPR[la[15:13]] << 13) | la[12:0]` (20_memory.md R101). -/
def State.translate (s : State) (la : Word) : PhysAddr :=
  s.mpr.get (la.extractLsb' 13 3).toFin ++ la.extractLsb' 0 13

/-! The physical address map. -/

/-- The first physical address that is decoded inside the chip, the start of block $FF
(20_memory.md R103, R104). -/
def blockFFBase : Nat := 0x1FE000

/-- What a physical address selects (20_memory.md R103, R104; 60_exceptions.md R503, R541). -/
inductive BusTarget where
  | external
  | huc6270
  | huc6260
  | psg
  | timerCounter
  | timerControl
  | port
  | idr
  | irr
  | undecoded
deriving DecidableEq, Repr

/-- The decode of a physical address: blocks $00 to $FE are external; block $FF by 1K-byte range and
by the low address bits R104 names. -/
def busTarget (pa : PhysAddr) : BusTarget :=
  let n := pa.toNat
  if n < blockFFBase then .external
  else if n < 0x1FE400 then .huc6270
  else if n < 0x1FE800 then .huc6260
  else if n < 0x1FEC00 then .psg
  else if n < 0x1FF000 then (if n % 2 = 0 then .timerCounter else .timerControl)
  else if n < 0x1FF400 then .port
  else if n < 0x1FF800 then
    (if n % 4 = 2 then .idr else if n % 4 = 3 then .irr else .undecoded)
  else .undecoded

/-- What answers at an address of the external bus: the first range of the platform that holds it, RAM
where there is none (log 6). -/
def busKind : List Region → Nat → BusKind
  | [], _ => .ram
  | r :: rs, n => if r.base ≤ n ∧ n < r.base + r.size then r.kind else busKind rs n

/-! Reads. -/

/-- Records an access to a unit whose behaviour the spec does not give. -/
def State.logAccess (s : State) (acc : DeviceAccess) : State :=
  { s with io := { s.io with deviceLog := acc :: s.io.deviceLog } }

/-- A read of an external device: a free value (parameter `PhysMem`, log 7). -/
def State.deviceRead (s : State) (pa : PhysAddr) : Byte × State :=
  (Config.physMemRead s.io.deviceLog pa, s.logAccess (.read pa))

/-- A read of an internal address no source decodes, or of the PSG: a free value (parameter
`io_undecoded`, log 8). -/
def State.undecodedRead (s : State) (pa : PhysAddr) : Byte × State :=
  (Config.ioUndecoded s.io.deviceLog pa, s.logAccess (.read pa))

/-- Counts one draw of a free value. -/
def State.countDraw (s : State) : State :=
  { s with io := { s.io with freeCount := s.io.freeCount + 1 } }

/-- The defined bits of a register read with free values in the other positions (parameter
`io_unused_bits`, log 9). `defined` is the mask of the positions that hold a field. -/
def State.fieldRead (s : State) (r : IoReg) (defined fields : Byte) : Byte × State :=
  ((Config.ioUnusedBits r s.io.freeCount &&& ~~~defined) ||| (fields &&& defined), s.countDraw)

/-- A bit as a byte with that bit in position 0. -/
def bitByte (b : Bool) : Byte := (BitVec.ofBool b).setWidth 8

/-- The fields of IRR: TIQ, and the inverted levels of pins IRQ1 and IRQ2 at the moment of the read
(60_exceptions.md R501). -/
def Io.irrFields (io : Io) : Byte :=
  (bitByte io.tiq <<< 2) ||| (bitByte (io.pins.irq1 == .low) <<< 1) |||
    bitByte (io.pins.irq2 == .low)

/-- The fields of IDR (60_exceptions.md R502). -/
def Io.idrFields (io : Io) : Byte :=
  (bitByte io.idr.tiqd <<< 2) ||| (bitByte io.idr.irq1d <<< 1) ||| bitByte io.idr.irq2d

/-- The seven bits a read of the timer counter answers: the counter, or a free value where the
environment marked the read and parameter `timer_read_glitch` is on (60_exceptions.md R534,
70_reset_and_hazards.md R612; log 11). -/
def Io.counterSeen (io : Io) : BitVec 7 :=
  if io.glitch then
    (if Config.timerReadGlitch then Config.glitchedCounter io.freeCount else io.timer.counter)
  else io.timer.counter

/-- A read of the external bus, blocks $00 to $FE (20_memory.md R103). -/
def State.readExternal (s : State) (pa : PhysAddr) : Byte × State :=
  match busKind s.platform pa.toNat with
  | .ram => (s.mem.read pa.toNat, s)
  | .rom => (s.mem.read pa.toNat, s)
  | .device => s.deviceRead pa

/-- The read itself, by what the address selects (20_memory.md R104; 60_exceptions.md R501, R502,
R534, R540). -/
def State.readTarget (s : State) (target : BusTarget) (pa : PhysAddr) : Byte × State :=
  match target with
  | .external => s.readExternal pa
  | .huc6270 => s.deviceRead pa
  | .huc6260 => s.deviceRead pa
  | .psg => s.undecodedRead pa
  | .timerCounter => s.fieldRead .timerCounter 0x7F#8 (s.io.counterSeen.setWidth 8)
  | .timerControl => s.undecodedRead pa
  | .port => (s.io.pins.k, s)
  | .idr => s.fieldRead .idr 0x07#8 s.io.idrFields
  | .irr => s.fieldRead .irr 0x07#8 s.io.irrFields
  | .undecoded => s.undecodedRead pa

/-- `PhysRead(pa)`: the environment acts, then the byte is read (20_memory.md R103). No read of an
on-chip register has a side effect (20_memory.md R111). -/
def State.physRead (s : State) (pa : PhysAddr) : Byte × State :=
  s.elapse.readTarget (busTarget pa) pa

/-! Writes. -/

/-- A write to the timer control register (60_exceptions.md R533): on a start from rest the prescaler
begins from its reset state, 0. -/
def Timer.control (t : Timer) (v : Byte) : Timer :=
  let new := v.getLsbD 0
  { t with
    counter := if !t.start && new then t.reload else t.counter
    prescaler := if t.start && new then t.prescaler else 0
    start := new }

/-- A write to the external bus, blocks $00 to $FE (20_memory.md R103). -/
def State.writeExternal (s : State) (pa : PhysAddr) (v : Byte) : State :=
  match busKind s.platform pa.toNat with
  | .ram => { s with mem := s.mem.write pa.toNat v }
  | .rom => s
  | .device => s.logAccess (.write pa v)

/-- The write itself, by what the address selects (20_memory.md R104, R111; 60_exceptions.md R501,
R502, R532, R533, R540). -/
def State.writeTarget (s : State) (target : BusTarget) (pa : PhysAddr) (v : Byte) : State :=
  match target with
  | .external => s.writeExternal pa v
  | .huc6270 => s.logAccess (.write pa v)
  | .huc6260 => s.logAccess (.write pa v)
  | .psg => s.logAccess (.write pa v)
  | .timerCounter =>
    { s with io := { s.io with timer := { s.io.timer with reload := v.setWidth 7 } } }
  | .timerControl => { s with io := { s.io with timer := s.io.timer.control v } }
  | .port => { s with io := { s.io with portO := v } }
  | .idr =>
    { s with io := { s.io with
        idr := { tiqd := v.getLsbD 2, irq1d := v.getLsbD 1, irq2d := v.getLsbD 0 } } }
  | .irr => { s with io := { s.io with tiq := false } }
  | .undecoded => s.logAccess (.write pa v)

/-- `PhysWrite(pa, v)`: the environment acts, then the byte is written (20_memory.md R103). -/
def State.physWrite (s : State) (pa : PhysAddr) (v : Byte) : State :=
  s.elapse.writeTarget (busTarget pa) pa v

/-- `MemRead(la, 1)` (20_memory.md R102). -/
def State.memRead (s : State) (la : Word) : Byte × State := s.physRead (s.translate la)

/-- `MemWrite(la, 1, v)` (20_memory.md R102). -/
def State.memWrite (s : State) (la : Word) (v : Byte) : State := s.physWrite (s.translate la) v

/-- What memory holds at a physical address, seen from outside the bus: no access, no event. -/
def State.peek (s : State) (pa : PhysAddr) : Byte := s.mem.read pa.toNat

/-- A physical address at which RAM answers. -/
def State.isRam (s : State) (pa : PhysAddr) : Bool :=
  decide (pa.toNat < blockFFBase) && busKind s.platform pa.toNat == .ram

/-- A physical address at which RAM or ROM answers. -/
def State.isMemory (s : State) (pa : PhysAddr) : Bool :=
  decide (pa.toNat < blockFFBase) && busKind s.platform pa.toNat != .device

end Sys2Proof.Machine
end

