-- ==== Sys2Proof/Machine/Operands.lean ====
section
/-!
DEFINITION. Every operand form: zero-page and stack addresses, pointers, effective addresses
(30_encoding.md R152 to R174), the operand of an instruction and its branch target.
-/

namespace Sys2Proof.Machine

/-- `ZP(zz) = $2000 + zz` (20_memory.md R106). -/
def zpAddr (zz : Byte) : Word := joinBytes 0x20#8 zz

/-- The stack address `$2100 + S` (20_memory.md R107). -/
def stackAddr (sp : Byte) : Word := joinBytes 0x21#8 sp

/-- Reads a 16-bit value whose low and high bytes are at two addresses, the low byte first
(20_memory.md R108). -/
def State.readPair (s : State) (lo hi : Word) : Word × State :=
  let l := s.memRead lo
  let h := l.2.memRead hi
  (joinBytes h.1 l.1, h.2)

/-- `MemRead(la, 2)`: the word at an address and its 16-bit successor (00_scope.md R8). -/
def State.readWord (s : State) (la : Word) : Word × State := s.readPair la (la + 1)

/-- The pointer in the zero page at an offset; its high byte is at the next offset modulo 256
(30_encoding.md R161; log 14). -/
def State.zpPointer (s : State) (zz : Byte) : Word × State :=
  s.readPair (zpAddr zz) (zpAddr (zz + 1))

/-- The effective address of a memory operand, and the state after its pointer was read
(30_encoding.md R157 to R159, R161 to R166). Zero-page sums wrap modulo 256, others modulo 65536;
index registers are zero-extended (R174). -/
def State.effAddr (s : State) : Ea → Word × State
  | .zp zz => (zpAddr zz, s)
  | .zpX zz => (zpAddr (zz + s.x), s)
  | .zpY zz => (zpAddr (zz + s.y), s)
  | .ind zz => s.zpPointer zz
  | .indX zz => s.zpPointer (zz + s.x)
  | .indY zz =>
    let r := s.zpPointer zz
    (r.1 + s.y.setWidth 16, r.2)
  | .abs hhll => (hhll, s)
  | .absX hhll => (hhll + s.x.setWidth 16, s)
  | .absY hhll => (hhll + s.y.setWidth 16, s)

/-- The operand byte of an instruction that reads one (30_encoding.md R156, 40_alu_arith_logic.md
R201), and the state after the read. -/
def State.operand (s : State) : Source → Byte × State
  | .imm nn => (nn, s)
  | .mem ea =>
    let r := s.effAddr ea
    r.2.memRead r.1

/-- The length of an instruction that reads its operand from a source (30_encoding.md R151). -/
def sourceLength (src : Source) : Nat := src.form.length

/-- `u16(base + sext_8(rr))`: a relative target (30_encoding.md R160, R169). -/
def relTarget (base : Word) (rr : Byte) : Word := base + rr.signExtend 16

/-- The number of the lowest bit set in a mapping-register mask (30_encoding.md R154). -/
def maskIndex (mask : Byte) : Fin 8 :=
  if mask.getLsbD 0 then 0 else if mask.getLsbD 1 then 1 else if mask.getLsbD 2 then 2
  else if mask.getLsbD 3 then 3 else if mask.getLsbD 4 then 4 else if mask.getLsbD 5 then 5
  else if mask.getLsbD 6 then 6 else 7

end Sys2Proof.Machine
end

