-- ==== Sys2Proof/Machine/Ops.lean ====
section
/-!
DEFINITION. The named operations over registers and memory: register writes, the stack, the shared
shapes of instructions, block transfers, taking an interrupt and returning from one, reset, the
interrupt sample, and what a step does around an instruction.
-/

namespace Sys2Proof.Machine

/-- What a meaning answers. -/
abbrev Result := Host.Outcome State Fault Refusal

/-! Register writes. -/

/-- `A <- v`. -/
def State.setA (s : State) (v : Byte) : State := { s with a := v }

/-- `X <- v`. -/
def State.setX (s : State) (v : Byte) : State := { s with x := v }

/-- `Y <- v`. -/
def State.setY (s : State) (v : Byte) : State := { s with y := v }

/-- `S <- v`. -/
def State.setSp (s : State) (v : Byte) : State := { s with sp := v }

/-- `pc <- target`. -/
def State.setPc (s : State) (target : Word) : State := { s with pc := target }

/-- Writes the stored flags. -/
def State.setP (s : State) (p : Flags) : State := { s with p := p }

/-- `P.T <- 0`, the clearing in the fetch cycle of every instruction (10_state.md R54 step 3). A
meaning that needs `t_in` reads P.T before it. -/
def State.clearT (s : State) : State := { s with p := { s.p with t := false } }

/-- `setNZ(v)` on the machine's flags (40_alu_arith_logic.md R200). -/
def State.setNZ (s : State) (v : Byte) : State := s.setP (s.p.setNZ v)

/-- `pc <- u16(PC + length)` (10_state.md R34). -/
def State.advance (s : State) (length : Nat) : State :=
  { s with pc := s.pc + BitVec.ofNat 16 length }

/-! The stack (20_memory.md R107). -/

/-- `Push(v)`. -/
def State.push (s : State) (v : Byte) : State :=
  (s.memWrite (stackAddr s.sp) v).setSp (s.sp - 1)

/-- `Pull()`. -/
def State.pull (s : State) : Byte × State :=
  (s.setSp (s.sp + 1)).memRead (stackAddr (s.sp + 1))

/-- Pushes a word, the high byte first (20_memory.md R108). -/
def State.pushWord (s : State) (w : Word) : State := (s.push (hiByte w)).push (loByte w)

/-- Pulls a word, the low byte first (46_subroutine_stack.md R410, R411). -/
def State.pullWord (s : State) : Word × State :=
  let lo := s.pull
  let hi := lo.2.pull
  (joinBytes hi.1 lo.1, hi.2)

/-! Shapes shared by instructions. Each clears T first, as the fetch does. -/

/-- A one-byte instruction that accesses no data: `f` is its effect. -/
def State.implied (s : State) (f : State → State) : State := (f s.clearT).advance 1

/-- An instruction that reads one operand byte M: `f` is its effect, given the state after the read
and M. -/
def State.withOperand (s : State) (src : Source) (f : State → Byte → State) : State :=
  let r := s.clearT.operand src
  (f r.2 r.1).advance (sourceLength src)

/-- ADC, AND, EOR, ORA: the frame of 40_alu_arith_logic.md R201. With t_in = 1 the other operand and
the destination are the zero-page byte M(x) at `$2000 + X`; else they are A. M is read first. -/
def State.aluT (s : State) (op : Byte → Byte → Flags → Byte × Flags) (src : Source) : State :=
  let r := s.clearT.operand src
  if s.p.t then
    let l := r.2.memRead (zpAddr s.x)
    let o := op l.1 r.1 l.2.p
    ((l.2.setP o.2).memWrite (zpAddr s.x) o.1).advance (sourceLength src)
  else
    let o := op r.2.a r.1 r.2.p
    ((r.2.setP o.2).setA o.1).advance (sourceLength src)

/-- The read-modify-write frame on memory (41_alu_shift_incdec.md R240; 47_test.md R431, R432;
48_control.md R452, R453): one read, then one write, of the effective address. -/
def State.rmw (s : State) (op : Byte → Flags → Byte × Flags) (ea : Ea) : State :=
  let e := s.clearT.effAddr ea
  let m := e.2.memRead e.1
  let o := op m.1 m.2.p
  ((m.2.setP o.2).memWrite e.1 o.1).advance (1 + ea.size)

/-- The read-modify-write frame on A, accumulator mode (41_alu_shift_incdec.md R240). -/
def State.rmwA (s : State) (op : Byte → Flags → Byte × Flags) : State :=
  let o := op s.a s.clearT.p
  ((s.clearT.setP o.2).setA o.1).advance 1

/-- A store of a byte (43_data_transfer.md R303 to R306). The destination is not read. -/
def State.storeTo (s : State) (ea : Ea) (v : Byte) : State :=
  let e := s.clearT.effAddr ea
  (e.2.memWrite e.1 v).advance (1 + ea.size)

/-- Loads A, X or Y and sets N and Z from the byte (43_data_transfer.md R300 to R302). -/
def State.loadA (s : State) (v : Byte) : State := (s.setA v).setNZ v

/-- See `State.loadA`. -/
def State.loadX (s : State) (v : Byte) : State := (s.setX v).setNZ v

/-- See `State.loadA`. -/
def State.loadY (s : State) (v : Byte) : State := (s.setY v).setNZ v

/-- INX and DEX, INY and DEY: an operation on an index register (41_alu_shift_incdec.md R247 to
R250). -/
def State.countX (s : State) (op : Byte → Flags → Byte × Flags) : State :=
  (s.setX (op s.x s.p).1).setP (op s.x s.p).2

/-- See `State.countX`. -/
def State.countY (s : State) (op : Byte → Flags → Byte × Flags) : State :=
  (s.setY (op s.y s.p).1).setP (op s.y s.p).2

/-- A comparison of a register byte with M (40_alu_arith_logic.md R212 to R214). -/
def State.compareWith (s : State) (r m : Byte) : State := s.setP (compareFlags r m s.p)

/-- SBC on A (40_alu_arith_logic.md R217); t_in is ignored. -/
def State.subtractFromA (s : State) (m : Byte) : State :=
  (s.setA (sbcOp s.a m s.p).1).setP (sbcOp s.a m s.p).2

/-- BIT's effect (47_test.md R430). -/
def State.bitTest (s : State) (m : Byte) : State := s.setP (testFlags m (s.a &&& m) s.p)

/-- TST: the memory byte against an immediate (47_test.md R433); the length is that of IMMZP, IMMZPX,
IMMABS, IMMABSX (30_encoding.md R170 to R173). -/
def State.testImm (s : State) (nn : Byte) (ea : Ea) : State :=
  let e := s.clearT.effAddr ea
  let m := e.2.memRead e.1
  (m.2.setP (testFlags m.1 (nn &&& m.1) m.2.p)).advance (2 + ea.size)

/-- A two-byte relative branch (45_branch.md R370). -/
def State.branchIf (s : State) (cond : Bool) (rr : Byte) : State :=
  let t := s.clearT.advance 2
  if cond then t.setPc (relTarget t.pc rr) else t

/-- BBRi and BBSi: branch where bit i of the zero-page byte equals `want` (45_branch.md R371, R372). -/
def State.branchOnBit (s : State) (i : Fin 8) (want : Bool) (zz rr : Byte) : State :=
  let m := s.clearT.memRead (zpAddr zz)
  let t := m.2.advance 3
  if m.1.getLsbD i.val == want then t.setPc (relTarget t.pc rr) else t

/-- ST0, ST1, ST2: a write to a physical address with no translation (43_data_transfer.md R316 to
R318, 20_memory.md R105). -/
def State.storeImmediate (s : State) (pa : PhysAddr) (nn : Byte) : State :=
  (s.clearT.physWrite pa nn).advance 2

/-- A push instruction; `v` is computed from the state after the fetch cleared T
(46_subroutine_stack.md R402 to R405). -/
def State.pushInstr (s : State) (v : State → Byte) : State :=
  (s.clearT.push (v s.clearT)).advance 1

/-- A pull instruction; `f` stores the pulled byte (46_subroutine_stack.md R406 to R409). -/
def State.pullInstr (s : State) (f : State → Byte → State) : State :=
  let r := s.clearT.pull
  (f r.2 r.1).advance 1

/-- A subroutine call: pushes the address of the call's last byte (46_subroutine_stack.md R400,
R401). -/
def State.call (s : State) (last target : Word) : State := (s.clearT.pushWord last).setPc target

/-- RTS: the pulled word plus 1 (46_subroutine_stack.md R411). -/
def State.returnFromSubroutine (s : State) : State :=
  let r := s.clearT.pullWord
  r.2.setPc (r.1 + 1)

/-- JMP through a pointer at a logical address (45_branch.md R382); the address of the pointer's high
byte is the full 16-bit successor (30_encoding.md R167, R168). -/
def State.jumpIndirect (s : State) (la : Word) : State :=
  let r := s.clearT.readWord la
  r.2.setPc r.1

/-! Mapping registers (43_data_transfer.md R319, R320). -/

/-- TAM's transfer of A to the mapping registers a mask selects. -/
def State.loadMpr (s : State) (mask : Byte) : State :=
  { s with
    mpr := s.mpr.load mask s.a
    mprLatch := if mask = 0 then s.mprLatch else s.a }

/-- What TMA reads for a mask with at most one bit set. -/
def State.readMpr (s : State) (mask : Byte) : Byte :=
  if mask = 0 then s.mprLatch else s.mpr.get (maskIndex mask)

/-! Block transfers (44_block_transfer.md R350). -/

/-- How an address of a block transfer moves between bytes. -/
inductive Motion where
  | increment
  | decrement
  | fixed
  | alternate
deriving DecidableEq, Repr

/-- The address of one byte: the base, or base + 1 where an alternating address is in its second
phase. -/
def motionAddr (m : Motion) (base : Word) (alt : Bool) : Word :=
  if m = .alternate ∧ alt then base + 1 else base

/-- The base for the next byte. -/
def motionNext (m : Motion) (base : Word) : Word :=
  match m with
  | .increment => base + 1
  | .decrement => base - 1
  | .fixed => base
  | .alternate => base

/-- The bytes of a block transfer, one read and one write each, `n` of them. SH, DH and LH follow the
high bytes of the running source, destination and length (10_state.md R45; log 21). -/
def State.blockLoop (src dst : Motion) : Nat → State → Word → Word → Word → Bool → State
  | 0, s, _, _, _, _ => s
  | n + 1, s, ssss, dddd, llll, alt =>
    let r := s.memRead (motionAddr src ssss alt)
    let t := r.2.memWrite (motionAddr dst dddd alt) r.1
    let ssss' := motionNext src ssss
    let dddd' := motionNext dst dddd
    let llll' := llll - 1
    State.blockLoop src dst n { t with sh := hiByte ssss', dh := hiByte dddd', lh := hiByte llll' }
      ssss' dddd' llll' (!alt)

/-- How many bytes a length field stands for: 0 is 65536 (44_block_transfer.md R350 (a)). -/
def blockCount (llll : Word) : Nat := if llll = 0 then 65536 else llll.toNat

/-- Loads SH, DH and LH from the operand bytes (10_state.md R45). -/
def State.loadBlockRegs (s : State) (ssss dddd llll : Word) : State :=
  { s with sh := hiByte ssss, dh := hiByte dddd, lh := hiByte llll }

/-- A block transfer: Y, A, X pushed, the bytes moved, X, A, Y pulled (44_block_transfer.md R350). -/
def State.blockTransfer (s : State) (src dst : Motion) (ssss dddd llll : Word) : State :=
  let pushed := ((s.clearT.push s.y).push s.a).push s.x
  let moved := State.blockLoop src dst (blockCount llll) (pushed.loadBlockRegs ssss dddd llll)
    ssss dddd llll false
  let x := moved.pull
  let a := x.2.pull
  let y := a.2.pull
  (((y.2.setX x.1).setA a.1).setY y.1).advance 7

/-! Interrupts (60_exceptions.md R510, R511, R520, R521). -/

/-- The logical address of each vector (20_memory.md R112). IRQ2 and BRK share one. -/
def vectorIrq2 : Word := 0xFFF6#16

/-- See `vectorIrq2`. -/
def vectorIrq1 : Word := 0xFFF8#16

/-- See `vectorIrq2`. -/
def vectorTimer : Word := 0xFFFA#16

/-- See `vectorIrq2`. -/
def vectorNmi : Word := 0xFFFC#16

/-- The entry sequence `Interrupt(vector, b)` with return address `ret` (60_exceptions.md R520): PCH,
PCL and P are pushed, with P as it is now and B as given, T and D are reset, I is set, and the program
counter is read at the vector. -/
def State.enterInterrupt (s : State) (vector : Word) (b : Bool) (ret : Word) : State :=
  let pushed := (s.pushWord ret).push (s.p.toByte b)
  let v := (pushed.setP { s.p with t := false, i := true, d := false }).readWord vector
  { v.2 with pc := v.1, intSel := .none }

/-- `nmi_pending <- 0`, the first action of the NMI entry (60_exceptions.md R512, R520). -/
def State.clearNmi (s : State) : State := { s with io := { s.io with nmiPending := false } }

/-- The hardware interrupt a sample selected is taken: B is 0 and the return address is PC. -/
def State.enterHardware (s : State) : IntSel → State
  | .none => s
  | .nmi => s.clearNmi.enterInterrupt vectorNmi false s.pc
  | .timer => s.enterInterrupt vectorTimer false s.pc
  | .irq1 => s.enterInterrupt vectorIrq1 false s.pc
  | .irq2 => s.enterInterrupt vectorIrq2 false s.pc

/-- RTI's return (60_exceptions.md R521, 46_subroutine_stack.md R410): P first, then PC unadjusted. -/
def State.returnFromInterrupt (s : State) : State :=
  let b := s.clearT.pull
  let r := (b.2.setP (flagsOfByte b.1)).pullWord
  r.2.setPc r.1

/-- The selection of 60_exceptions.md R510: NMI, then TIMER, IRQ1, IRQ2 where enabled and not masked by
`iEff`. -/
def Io.select (io : Io) (iEff : Bool) : IntSel :=
  if io.nmiPending then .nmi
  else if io.tiq && !io.idr.tiqd && !iEff then .timer
  else if io.pins.irq1 == .low && !io.idr.irq1d && !iEff then .irq1
  else if io.pins.irq2 == .low && !io.idr.irq2d && !iEff then .irq2
  else .none

/-- The interrupt sample (60_exceptions.md R510): the environment acts, then `int_sel` is written. -/
def State.sample (s : State) (iEff : Bool) : State :=
  { s.elapse with intSel := s.elapse.io.select iEff }

/-- CLI and SEI: the sample after them uses the old I (60_exceptions.md R511). -/
def delaysI : Instr → Bool
  | .cli => true
  | .sei => true
  | _ => false

/-- Step (4) of 10_state.md R54 after an instruction: the sample, with I as it was before CLI and
SEI. -/
def State.sampleAfter (i : Instr) (before after : State) : State :=
  after.sample (if delaysI i then before.p.i else after.p.i)

/-! Reset (70_reset_and_hazards.md R600, R601). -/

/-- The on-chip effects of RESET; what it does not initialise takes free values (log 3). Memory, the
platform, the pins and the schedule are not changed; the devices see the RESET signal. -/
def State.resetRegisters (s : State) : State :=
  let u := Config.resetUnspecified s.io.freeCount
  { s with
    a := u.a, x := u.x, y := u.y, sp := u.sp
    p := { n := u.n, v := u.v, t := false, d := false, i := true, z := u.z, c := u.c }
    sh := u.sh, dh := u.dh, lh := u.lh
    mpr := { m0 := u.m0, m1 := u.m1, m2 := u.m2, m3 := u.m3, m4 := u.m4, m5 := u.m5, m6 := u.m6
             m7 := 0 }
    mprLatch := u.mprLatch, speed := .low, intSel := .none
    io := { s.io with
      idr := { tiqd := false, irq1d := false, irq2d := false }
      tiq := false, nmiPending := false
      timer := { reload := u.reload, counter := u.counter, start := false
                 prescaler := u.prescaler }
      portO := 0xFF, resetPending := false
      deviceLog := .reset :: s.io.deviceLog
      freeCount := s.io.freeCount + 1 } }

/-- System reset: the registers, then the vector at physical $001FFE and $001FFF. -/
def State.systemReset (s : State) : State :=
  let lo := s.resetRegisters.physRead 0x001FFE#21
  let hi := lo.2.physRead 0x001FFF#21
  hi.2.setPc (joinBytes hi.1 lo.1)

/-! What a step does around an instruction (10_state.md R54). -/

/-- Reads so many bytes at rising logical addresses. -/
def State.fetchBytes : Nat → State → Word → List Byte × State
  | 0, s, _ => ([], s)
  | n + 1, s, la =>
    let r := s.memRead la
    let q := State.fetchBytes n r.2 (la + 1)
    (r.1 :: q.1, q.2)

/-- Fetches the instruction at PC: the opcode byte, then as many operand bytes as it selects
(30_encoding.md R151; 20_memory.md R115). -/
def State.fetch (s : State) : List Byte × State :=
  let r := s.memRead s.pc
  match (opcodeCell r.1).operandBytes with
  | none => ([r.1], r.2)
  | some n =>
    let q := State.fetchBytes n r.2 (s.pc + 1)
    (r.1 :: q.1, q.2)

/-- What a step has to do after its boundary: it is over (a reset or an interrupt entry), it is
refused, or it runs an instruction in the state after the fetch. -/
inductive StepPlan where
  | done (s : State)
  | refuse (r : Refusal)
  | run (i : Instr) (s : State)
deriving DecidableEq, Repr

/-- Fetch and decode. Only an undefined opcode byte is no instruction: the fetch reads as many bytes
as the opcode selects. -/
def State.planFetch (s : State) : StepPlan :=
  let f := s.fetch
  match decode f.1 with
  | .ok r => .run r.1 f.2
  | .error _ => .refuse (.illegalOpcode (f.1.headD 0))

/-- Steps (1), (2) and the fetch of (3) of 10_state.md R54: RESET, the selected interrupt with its own
sample (P.I is 1 after every entry), or the next instruction. -/
def State.plan (s : State) : StepPlan :=
  if s.elapse.io.resetPending then .done s.elapse.systemReset
  else
    match s.intSel with
    | .none => s.elapse.planFetch
    | sel => .done ((s.elapse.enterHardware sel).sample true)

end Sys2Proof.Machine
end

