-- ==== Sys2Proof/Machine/Arith.lean ====
section
/-!
DEFINITION. The meanings of the arithmetic, compare and logic instructions: ADC AND CMP CPX CPY EOR ORA SBC (40_alu_arith_logic.md).
Each is one line over the shared operations.
-/

namespace Sys2Proof.Machine

/-- `ADC #nn`, R210. -/
def execAdcImm (nn : Byte) (s : State) : Result := .next (s.aluT adcOp (.imm nn))

/-- `ADC zz`, R210. -/
def execAdcZp (zz : Byte) (s : State) : Result := .next (s.aluT adcOp (.mem (.zp zz)))

/-- `ADC zz,X`, R210. -/
def execAdcZpX (zz : Byte) (s : State) : Result := .next (s.aluT adcOp (.mem (.zpX zz)))

/-- `ADC (zz)`, R210. -/
def execAdcInd (zz : Byte) (s : State) : Result := .next (s.aluT adcOp (.mem (.ind zz)))

/-- `ADC (zz,X)`, R210. -/
def execAdcIndX (zz : Byte) (s : State) : Result := .next (s.aluT adcOp (.mem (.indX zz)))

/-- `ADC (zz),Y`, R210. -/
def execAdcIndY (zz : Byte) (s : State) : Result := .next (s.aluT adcOp (.mem (.indY zz)))

/-- `ADC hhll`, R210. -/
def execAdcAbs (hhll : Word) (s : State) : Result := .next (s.aluT adcOp (.mem (.abs hhll)))

/-- `ADC hhll,X`, R210. -/
def execAdcAbsX (hhll : Word) (s : State) : Result := .next (s.aluT adcOp (.mem (.absX hhll)))

/-- `ADC hhll,Y`, R210. -/
def execAdcAbsY (hhll : Word) (s : State) : Result := .next (s.aluT adcOp (.mem (.absY hhll)))

/-- `AND #nn`, R211. -/
def execAndImm (nn : Byte) (s : State) : Result := .next (s.aluT andOp (.imm nn))

/-- `AND zz`, R211. -/
def execAndZp (zz : Byte) (s : State) : Result := .next (s.aluT andOp (.mem (.zp zz)))

/-- `AND zz,X`, R211. -/
def execAndZpX (zz : Byte) (s : State) : Result := .next (s.aluT andOp (.mem (.zpX zz)))

/-- `AND (zz)`, R211. -/
def execAndInd (zz : Byte) (s : State) : Result := .next (s.aluT andOp (.mem (.ind zz)))

/-- `AND (zz,X)`, R211. -/
def execAndIndX (zz : Byte) (s : State) : Result := .next (s.aluT andOp (.mem (.indX zz)))

/-- `AND (zz),Y`, R211. -/
def execAndIndY (zz : Byte) (s : State) : Result := .next (s.aluT andOp (.mem (.indY zz)))

/-- `AND hhll`, R211. -/
def execAndAbs (hhll : Word) (s : State) : Result := .next (s.aluT andOp (.mem (.abs hhll)))

/-- `AND hhll,X`, R211. -/
def execAndAbsX (hhll : Word) (s : State) : Result := .next (s.aluT andOp (.mem (.absX hhll)))

/-- `AND hhll,Y`, R211. -/
def execAndAbsY (hhll : Word) (s : State) : Result := .next (s.aluT andOp (.mem (.absY hhll)))

/-- `CMP #nn`, R212. -/
def execCmpImm (nn : Byte) (s : State) : Result :=
  .next (s.withOperand (.imm nn) fun s m => s.compareWith s.a m)

/-- `CMP zz`, R212. -/
def execCmpZp (zz : Byte) (s : State) : Result :=
  .next (s.withOperand (.mem (.zp zz)) fun s m => s.compareWith s.a m)

/-- `CMP zz,X`, R212. -/
def execCmpZpX (zz : Byte) (s : State) : Result :=
  .next (s.withOperand (.mem (.zpX zz)) fun s m => s.compareWith s.a m)

/-- `CMP (zz)`, R212. -/
def execCmpInd (zz : Byte) (s : State) : Result :=
  .next (s.withOperand (.mem (.ind zz)) fun s m => s.compareWith s.a m)

/-- `CMP (zz,X)`, R212. -/
def execCmpIndX (zz : Byte) (s : State) : Result :=
  .next (s.withOperand (.mem (.indX zz)) fun s m => s.compareWith s.a m)

/-- `CMP (zz),Y`, R212. -/
def execCmpIndY (zz : Byte) (s : State) : Result :=
  .next (s.withOperand (.mem (.indY zz)) fun s m => s.compareWith s.a m)

/-- `CMP hhll`, R212. -/
def execCmpAbs (hhll : Word) (s : State) : Result :=
  .next (s.withOperand (.mem (.abs hhll)) fun s m => s.compareWith s.a m)

/-- `CMP hhll,X`, R212. -/
def execCmpAbsX (hhll : Word) (s : State) : Result :=
  .next (s.withOperand (.mem (.absX hhll)) fun s m => s.compareWith s.a m)

/-- `CMP hhll,Y`, R212. -/
def execCmpAbsY (hhll : Word) (s : State) : Result :=
  .next (s.withOperand (.mem (.absY hhll)) fun s m => s.compareWith s.a m)

/-- `CPX #nn`, R213. -/
def execCpxImm (nn : Byte) (s : State) : Result :=
  .next (s.withOperand (.imm nn) fun s m => s.compareWith s.x m)

/-- `CPX zz`, R213. -/
def execCpxZp (zz : Byte) (s : State) : Result :=
  .next (s.withOperand (.mem (.zp zz)) fun s m => s.compareWith s.x m)

/-- `CPX hhll`, R213. -/
def execCpxAbs (hhll : Word) (s : State) : Result :=
  .next (s.withOperand (.mem (.abs hhll)) fun s m => s.compareWith s.x m)

/-- `CPY #nn`, R214. -/
def execCpyImm (nn : Byte) (s : State) : Result :=
  .next (s.withOperand (.imm nn) fun s m => s.compareWith s.y m)

/-- `CPY zz`, R214. -/
def execCpyZp (zz : Byte) (s : State) : Result :=
  .next (s.withOperand (.mem (.zp zz)) fun s m => s.compareWith s.y m)

/-- `CPY hhll`, R214. -/
def execCpyAbs (hhll : Word) (s : State) : Result :=
  .next (s.withOperand (.mem (.abs hhll)) fun s m => s.compareWith s.y m)

/-- `EOR #nn`, R215. -/
def execEorImm (nn : Byte) (s : State) : Result := .next (s.aluT eorOp (.imm nn))

/-- `EOR zz`, R215. -/
def execEorZp (zz : Byte) (s : State) : Result := .next (s.aluT eorOp (.mem (.zp zz)))

/-- `EOR zz,X`, R215. -/
def execEorZpX (zz : Byte) (s : State) : Result := .next (s.aluT eorOp (.mem (.zpX zz)))

/-- `EOR (zz)`, R215. -/
def execEorInd (zz : Byte) (s : State) : Result := .next (s.aluT eorOp (.mem (.ind zz)))

/-- `EOR (zz,X)`, R215. -/
def execEorIndX (zz : Byte) (s : State) : Result := .next (s.aluT eorOp (.mem (.indX zz)))

/-- `EOR (zz),Y`, R215. -/
def execEorIndY (zz : Byte) (s : State) : Result := .next (s.aluT eorOp (.mem (.indY zz)))

/-- `EOR hhll`, R215. -/
def execEorAbs (hhll : Word) (s : State) : Result := .next (s.aluT eorOp (.mem (.abs hhll)))

/-- `EOR hhll,X`, R215. -/
def execEorAbsX (hhll : Word) (s : State) : Result := .next (s.aluT eorOp (.mem (.absX hhll)))

/-- `EOR hhll,Y`, R215. -/
def execEorAbsY (hhll : Word) (s : State) : Result := .next (s.aluT eorOp (.mem (.absY hhll)))

/-- `ORA #nn`, R216. -/
def execOraImm (nn : Byte) (s : State) : Result := .next (s.aluT oraOp (.imm nn))

/-- `ORA zz`, R216. -/
def execOraZp (zz : Byte) (s : State) : Result := .next (s.aluT oraOp (.mem (.zp zz)))

/-- `ORA zz,X`, R216. -/
def execOraZpX (zz : Byte) (s : State) : Result := .next (s.aluT oraOp (.mem (.zpX zz)))

/-- `ORA (zz)`, R216. -/
def execOraInd (zz : Byte) (s : State) : Result := .next (s.aluT oraOp (.mem (.ind zz)))

/-- `ORA (zz,X)`, R216. -/
def execOraIndX (zz : Byte) (s : State) : Result := .next (s.aluT oraOp (.mem (.indX zz)))

/-- `ORA (zz),Y`, R216. -/
def execOraIndY (zz : Byte) (s : State) : Result := .next (s.aluT oraOp (.mem (.indY zz)))

/-- `ORA hhll`, R216. -/
def execOraAbs (hhll : Word) (s : State) : Result := .next (s.aluT oraOp (.mem (.abs hhll)))

/-- `ORA hhll,X`, R216. -/
def execOraAbsX (hhll : Word) (s : State) : Result := .next (s.aluT oraOp (.mem (.absX hhll)))

/-- `ORA hhll,Y`, R216. -/
def execOraAbsY (hhll : Word) (s : State) : Result := .next (s.aluT oraOp (.mem (.absY hhll)))

/-- `SBC #nn`, R217. -/
def execSbcImm (nn : Byte) (s : State) : Result :=
  .next (s.withOperand (.imm nn) State.subtractFromA)

/-- `SBC zz`, R217. -/
def execSbcZp (zz : Byte) (s : State) : Result :=
  .next (s.withOperand (.mem (.zp zz)) State.subtractFromA)

/-- `SBC zz,X`, R217. -/
def execSbcZpX (zz : Byte) (s : State) : Result :=
  .next (s.withOperand (.mem (.zpX zz)) State.subtractFromA)

/-- `SBC (zz)`, R217. -/
def execSbcInd (zz : Byte) (s : State) : Result :=
  .next (s.withOperand (.mem (.ind zz)) State.subtractFromA)

/-- `SBC (zz,X)`, R217. -/
def execSbcIndX (zz : Byte) (s : State) : Result :=
  .next (s.withOperand (.mem (.indX zz)) State.subtractFromA)

/-- `SBC (zz),Y`, R217. -/
def execSbcIndY (zz : Byte) (s : State) : Result :=
  .next (s.withOperand (.mem (.indY zz)) State.subtractFromA)

/-- `SBC hhll`, R217. -/
def execSbcAbs (hhll : Word) (s : State) : Result :=
  .next (s.withOperand (.mem (.abs hhll)) State.subtractFromA)

/-- `SBC hhll,X`, R217. -/
def execSbcAbsX (hhll : Word) (s : State) : Result :=
  .next (s.withOperand (.mem (.absX hhll)) State.subtractFromA)

/-- `SBC hhll,Y`, R217. -/
def execSbcAbsY (hhll : Word) (s : State) : Result :=
  .next (s.withOperand (.mem (.absY hhll)) State.subtractFromA)

end Sys2Proof.Machine
end

