-- ==== Sys2Proof/Machine/Block.lean ====
section
/-!
DEFINITION. The meanings of the block transfer instructions (44_block_transfer.md).
Each is one line over the shared operations.
-/

namespace Sys2Proof.Machine

/-- `TII ssss,dddd,llll`, R351. -/
def execTii (ssss : Word) (dddd : Word) (llll : Word) (s : State) : Result :=
  .next (s.blockTransfer .increment .increment ssss dddd llll)

/-- `TDD ssss,dddd,llll`, R352. -/
def execTdd (ssss : Word) (dddd : Word) (llll : Word) (s : State) : Result :=
  .next (s.blockTransfer .decrement .decrement ssss dddd llll)

/-- `TIN ssss,dddd,llll`, R353. -/
def execTin (ssss : Word) (dddd : Word) (llll : Word) (s : State) : Result :=
  .next (s.blockTransfer .increment .fixed ssss dddd llll)

/-- `TIA ssss,dddd,llll`, R354. -/
def execTia (ssss : Word) (dddd : Word) (llll : Word) (s : State) : Result :=
  .next (s.blockTransfer .increment .alternate ssss dddd llll)

/-- `TAI ssss,dddd,llll`, R355. -/
def execTai (ssss : Word) (dddd : Word) (llll : Word) (s : State) : Result :=
  .next (s.blockTransfer .alternate .increment ssss dddd llll)

end Sys2Proof.Machine
end

