-- ==== Sys2Proof/Machine/Branch.lean ====
section
/-!
DEFINITION. The meanings of the branch and jump instructions (45_branch.md).
Each is one line over the shared operations.
-/

namespace Sys2Proof.Machine

/-- `BBR0 zz,rr`, R371. -/
def execBbr0 (zz : Byte) (rr : Byte) (s : State) : Result := .next (s.branchOnBit 0 false zz rr)

/-- `BBR1 zz,rr`, R371. -/
def execBbr1 (zz : Byte) (rr : Byte) (s : State) : Result := .next (s.branchOnBit 1 false zz rr)

/-- `BBR2 zz,rr`, R371. -/
def execBbr2 (zz : Byte) (rr : Byte) (s : State) : Result := .next (s.branchOnBit 2 false zz rr)

/-- `BBR3 zz,rr`, R371. -/
def execBbr3 (zz : Byte) (rr : Byte) (s : State) : Result := .next (s.branchOnBit 3 false zz rr)

/-- `BBR4 zz,rr`, R371. -/
def execBbr4 (zz : Byte) (rr : Byte) (s : State) : Result := .next (s.branchOnBit 4 false zz rr)

/-- `BBR5 zz,rr`, R371. -/
def execBbr5 (zz : Byte) (rr : Byte) (s : State) : Result := .next (s.branchOnBit 5 false zz rr)

/-- `BBR6 zz,rr`, R371. -/
def execBbr6 (zz : Byte) (rr : Byte) (s : State) : Result := .next (s.branchOnBit 6 false zz rr)

/-- `BBR7 zz,rr`, R371. -/
def execBbr7 (zz : Byte) (rr : Byte) (s : State) : Result := .next (s.branchOnBit 7 false zz rr)

/-- `BBS0 zz,rr`, R372. -/
def execBbs0 (zz : Byte) (rr : Byte) (s : State) : Result := .next (s.branchOnBit 0 true zz rr)

/-- `BBS1 zz,rr`, R372. -/
def execBbs1 (zz : Byte) (rr : Byte) (s : State) : Result := .next (s.branchOnBit 1 true zz rr)

/-- `BBS2 zz,rr`, R372. -/
def execBbs2 (zz : Byte) (rr : Byte) (s : State) : Result := .next (s.branchOnBit 2 true zz rr)

/-- `BBS3 zz,rr`, R372. -/
def execBbs3 (zz : Byte) (rr : Byte) (s : State) : Result := .next (s.branchOnBit 3 true zz rr)

/-- `BBS4 zz,rr`, R372. -/
def execBbs4 (zz : Byte) (rr : Byte) (s : State) : Result := .next (s.branchOnBit 4 true zz rr)

/-- `BBS5 zz,rr`, R372. -/
def execBbs5 (zz : Byte) (rr : Byte) (s : State) : Result := .next (s.branchOnBit 5 true zz rr)

/-- `BBS6 zz,rr`, R372. -/
def execBbs6 (zz : Byte) (rr : Byte) (s : State) : Result := .next (s.branchOnBit 6 true zz rr)

/-- `BBS7 zz,rr`, R372. -/
def execBbs7 (zz : Byte) (rr : Byte) (s : State) : Result := .next (s.branchOnBit 7 true zz rr)

/-- `BCC rr`, R373. -/
def execBcc (rr : Byte) (s : State) : Result := .next (s.branchIf (!s.p.c) rr)

/-- `BCS rr`, R374. -/
def execBcs (rr : Byte) (s : State) : Result := .next (s.branchIf s.p.c rr)

/-- `BEQ rr`, R375. -/
def execBeq (rr : Byte) (s : State) : Result := .next (s.branchIf s.p.z rr)

/-- `BMI rr`, R376. -/
def execBmi (rr : Byte) (s : State) : Result := .next (s.branchIf s.p.n rr)

/-- `BNE rr`, R377. -/
def execBne (rr : Byte) (s : State) : Result := .next (s.branchIf (!s.p.z) rr)

/-- `BPL rr`, R378. -/
def execBpl (rr : Byte) (s : State) : Result := .next (s.branchIf (!s.p.n) rr)

/-- `BRA rr`, R379. -/
def execBra (rr : Byte) (s : State) : Result := .next (s.branchIf true rr)

/-- `BVC rr`, R380. -/
def execBvc (rr : Byte) (s : State) : Result := .next (s.branchIf (!s.p.v) rr)

/-- `BVS rr`, R381. -/
def execBvs (rr : Byte) (s : State) : Result := .next (s.branchIf s.p.v rr)

/-- `JMP hhll`, R382. -/
def execJmpAbs (hhll : Word) (s : State) : Result := .next (s.clearT.setPc hhll)

/-- `JMP (hhll)`, R382. -/
def execJmpAbsInd (hhll : Word) (s : State) : Result := .next (s.jumpIndirect hhll)

/-- `JMP (hhll,X)`, R382. -/
def execJmpAbsXInd (hhll : Word) (s : State) : Result :=
  .next (s.jumpIndirect (hhll + s.x.setWidth 16))

end Sys2Proof.Machine
end

