-- ==== Sys2Proof/Machine/Control.lean ====
section
/-!
DEFINITION. The meanings of the control instructions (48_control.md).
Each is one line over the shared operations.
-/

namespace Sys2Proof.Machine

/-- `BRK`, R450. -/
def execBrk (s : State) : Result := .next (s.clearT.enterInterrupt vectorIrq2 true (s.pc + 2))

/-- `NOP`, R451. -/
def execNop (s : State) : Result := .next (s.implied fun s => s)

/-- `RMB0 zz`, R452. -/
def execRmb0 (zz : Byte) (s : State) : Result := .next (s.rmw (rmbOp 0) (.zp zz))

/-- `RMB1 zz`, R452. -/
def execRmb1 (zz : Byte) (s : State) : Result := .next (s.rmw (rmbOp 1) (.zp zz))

/-- `RMB2 zz`, R452. -/
def execRmb2 (zz : Byte) (s : State) : Result := .next (s.rmw (rmbOp 2) (.zp zz))

/-- `RMB3 zz`, R452. -/
def execRmb3 (zz : Byte) (s : State) : Result := .next (s.rmw (rmbOp 3) (.zp zz))

/-- `RMB4 zz`, R452. -/
def execRmb4 (zz : Byte) (s : State) : Result := .next (s.rmw (rmbOp 4) (.zp zz))

/-- `RMB5 zz`, R452. -/
def execRmb5 (zz : Byte) (s : State) : Result := .next (s.rmw (rmbOp 5) (.zp zz))

/-- `RMB6 zz`, R452. -/
def execRmb6 (zz : Byte) (s : State) : Result := .next (s.rmw (rmbOp 6) (.zp zz))

/-- `RMB7 zz`, R452. -/
def execRmb7 (zz : Byte) (s : State) : Result := .next (s.rmw (rmbOp 7) (.zp zz))

/-- `SMB0 zz`, R453. -/
def execSmb0 (zz : Byte) (s : State) : Result := .next (s.rmw (smbOp 0) (.zp zz))

/-- `SMB1 zz`, R453. -/
def execSmb1 (zz : Byte) (s : State) : Result := .next (s.rmw (smbOp 1) (.zp zz))

/-- `SMB2 zz`, R453. -/
def execSmb2 (zz : Byte) (s : State) : Result := .next (s.rmw (smbOp 2) (.zp zz))

/-- `SMB3 zz`, R453. -/
def execSmb3 (zz : Byte) (s : State) : Result := .next (s.rmw (smbOp 3) (.zp zz))

/-- `SMB4 zz`, R453. -/
def execSmb4 (zz : Byte) (s : State) : Result := .next (s.rmw (smbOp 4) (.zp zz))

/-- `SMB5 zz`, R453. -/
def execSmb5 (zz : Byte) (s : State) : Result := .next (s.rmw (smbOp 5) (.zp zz))

/-- `SMB6 zz`, R453. -/
def execSmb6 (zz : Byte) (s : State) : Result := .next (s.rmw (smbOp 6) (.zp zz))

/-- `SMB7 zz`, R453. -/
def execSmb7 (zz : Byte) (s : State) : Result := .next (s.rmw (smbOp 7) (.zp zz))

/-- `CSH`, R454. -/
def execCsh (s : State) : Result := .next (s.implied fun s => { s with speed := .high })

/-- `CSL`, R455. -/
def execCsl (s : State) : Result := .next (s.implied fun s => { s with speed := .low })

end Sys2Proof.Machine
end

