-- ==== Sys2Proof/Machine/FlagInstr.lean ====
section
/-!
DEFINITION. The meanings of the flag instructions (42_flag.md).
Each is one line over the shared operations.
-/

namespace Sys2Proof.Machine

/-- `CLC`, R280. -/
def execClc (s : State) : Result := .next (s.implied fun s => s.setP { s.p with c := false })

/-- `CLD`, R281. -/
def execCld (s : State) : Result := .next (s.implied fun s => s.setP { s.p with d := false })

/-- `CLI`, R282. -/
def execCli (s : State) : Result := .next (s.implied fun s => s.setP { s.p with i := false })

/-- `CLV`, R283. -/
def execClv (s : State) : Result := .next (s.implied fun s => s.setP { s.p with v := false })

/-- `SEC`, R284. -/
def execSec (s : State) : Result := .next (s.implied fun s => s.setP { s.p with c := true })

/-- `SED`, R285. -/
def execSed (s : State) : Result := .next (s.implied fun s => s.setP { s.p with d := true })

/-- `SEI`, R286. -/
def execSei (s : State) : Result := .next (s.implied fun s => s.setP { s.p with i := true })

/-- `SET`, R287. -/
def execSetT (s : State) : Result := .next (s.implied fun s => s.setP { s.p with t := true })

end Sys2Proof.Machine
end

