-- ==== Sys2Proof/Machine/Shift.lean ====
section
/-!
DEFINITION. The meanings of the shift, rotate, increment, decrement and clear instructions (41_alu_shift_incdec.md).
Each is one line over the shared operations.
-/

namespace Sys2Proof.Machine

/-- `ASL A`, R241. -/
def execAslAcc (s : State) : Result := .next (s.rmwA aslOp)

/-- `ASL zz`, R241. -/
def execAslZp (zz : Byte) (s : State) : Result := .next (s.rmw aslOp (.zp zz))

/-- `ASL zz,X`, R241. -/
def execAslZpX (zz : Byte) (s : State) : Result := .next (s.rmw aslOp (.zpX zz))

/-- `ASL hhll`, R241. -/
def execAslAbs (hhll : Word) (s : State) : Result := .next (s.rmw aslOp (.abs hhll))

/-- `ASL hhll,X`, R241. -/
def execAslAbsX (hhll : Word) (s : State) : Result := .next (s.rmw aslOp (.absX hhll))

/-- `LSR A`, R242. -/
def execLsrAcc (s : State) : Result := .next (s.rmwA lsrOp)

/-- `LSR zz`, R242. -/
def execLsrZp (zz : Byte) (s : State) : Result := .next (s.rmw lsrOp (.zp zz))

/-- `LSR zz,X`, R242. -/
def execLsrZpX (zz : Byte) (s : State) : Result := .next (s.rmw lsrOp (.zpX zz))

/-- `LSR hhll`, R242. -/
def execLsrAbs (hhll : Word) (s : State) : Result := .next (s.rmw lsrOp (.abs hhll))

/-- `LSR hhll,X`, R242. -/
def execLsrAbsX (hhll : Word) (s : State) : Result := .next (s.rmw lsrOp (.absX hhll))

/-- `ROL A`, R243. -/
def execRolAcc (s : State) : Result := .next (s.rmwA rolOp)

/-- `ROL zz`, R243. -/
def execRolZp (zz : Byte) (s : State) : Result := .next (s.rmw rolOp (.zp zz))

/-- `ROL zz,X`, R243. -/
def execRolZpX (zz : Byte) (s : State) : Result := .next (s.rmw rolOp (.zpX zz))

/-- `ROL hhll`, R243. -/
def execRolAbs (hhll : Word) (s : State) : Result := .next (s.rmw rolOp (.abs hhll))

/-- `ROL hhll,X`, R243. -/
def execRolAbsX (hhll : Word) (s : State) : Result := .next (s.rmw rolOp (.absX hhll))

/-- `ROR A`, R244. -/
def execRorAcc (s : State) : Result := .next (s.rmwA rorOp)

/-- `ROR zz`, R244. -/
def execRorZp (zz : Byte) (s : State) : Result := .next (s.rmw rorOp (.zp zz))

/-- `ROR zz,X`, R244. -/
def execRorZpX (zz : Byte) (s : State) : Result := .next (s.rmw rorOp (.zpX zz))

/-- `ROR hhll`, R244. -/
def execRorAbs (hhll : Word) (s : State) : Result := .next (s.rmw rorOp (.abs hhll))

/-- `ROR hhll,X`, R244. -/
def execRorAbsX (hhll : Word) (s : State) : Result := .next (s.rmw rorOp (.absX hhll))

/-- `INC A`, R245. -/
def execIncAcc (s : State) : Result := .next (s.rmwA incOp)

/-- `INC zz`, R245. -/
def execIncZp (zz : Byte) (s : State) : Result := .next (s.rmw incOp (.zp zz))

/-- `INC zz,X`, R245. -/
def execIncZpX (zz : Byte) (s : State) : Result := .next (s.rmw incOp (.zpX zz))

/-- `INC hhll`, R245. -/
def execIncAbs (hhll : Word) (s : State) : Result := .next (s.rmw incOp (.abs hhll))

/-- `INC hhll,X`, R245. -/
def execIncAbsX (hhll : Word) (s : State) : Result := .next (s.rmw incOp (.absX hhll))

/-- `DEC A`, R246. -/
def execDecAcc (s : State) : Result := .next (s.rmwA decOp)

/-- `DEC zz`, R246. -/
def execDecZp (zz : Byte) (s : State) : Result := .next (s.rmw decOp (.zp zz))

/-- `DEC zz,X`, R246. -/
def execDecZpX (zz : Byte) (s : State) : Result := .next (s.rmw decOp (.zpX zz))

/-- `DEC hhll`, R246. -/
def execDecAbs (hhll : Word) (s : State) : Result := .next (s.rmw decOp (.abs hhll))

/-- `DEC hhll,X`, R246. -/
def execDecAbsX (hhll : Word) (s : State) : Result := .next (s.rmw decOp (.absX hhll))

/-- `INX`, R247. -/
def execInx (s : State) : Result := .next (s.implied fun s => s.countX incOp)

/-- `INY`, R248. -/
def execIny (s : State) : Result := .next (s.implied fun s => s.countY incOp)

/-- `DEX`, R249. -/
def execDex (s : State) : Result := .next (s.implied fun s => s.countX decOp)

/-- `DEY`, R250. -/
def execDey (s : State) : Result := .next (s.implied fun s => s.countY decOp)

/-- `CLA`, R251. -/
def execCla (s : State) : Result := .next (s.implied fun s => s.setA 0)

/-- `CLX`, R252. -/
def execClx (s : State) : Result := .next (s.implied fun s => s.setX 0)

/-- `CLY`, R253. -/
def execCly (s : State) : Result := .next (s.implied fun s => s.setY 0)

end Sys2Proof.Machine
end

