-- ==== Sys2Proof/Machine/Subroutine.lean ====
section
/-!
DEFINITION. The meanings of the subroutine, stack and return instructions (46_subroutine_stack.md).
Each is one line over the shared operations.
-/

namespace Sys2Proof.Machine

/-- `BSR rr`, R400. -/
def execBsr (rr : Byte) (s : State) : Result :=
  .next (s.call (s.pc + 1) (relTarget (s.pc + 2) rr))

/-- `JSR hhll`, R401. -/
def execJsr (hhll : Word) (s : State) : Result := .next (s.call (s.pc + 2) hhll)

/-- `PHA`, R402. -/
def execPha (s : State) : Result := .next (s.pushInstr fun s => s.a)

/-- `PHP`, R403. -/
def execPhp (s : State) : Result := .next (s.pushInstr fun s => s.p.toByte true)

/-- `PHX`, R404. -/
def execPhx (s : State) : Result := .next (s.pushInstr fun s => s.x)

/-- `PHY`, R405. -/
def execPhy (s : State) : Result := .next (s.pushInstr fun s => s.y)

/-- `PLA`, R406. -/
def execPla (s : State) : Result := .next (s.pullInstr State.loadA)

/-- `PLP`, R407. -/
def execPlp (s : State) : Result := .next (s.pullInstr fun s b => s.setP (flagsOfByte b))

/-- `PLX`, R408. -/
def execPlx (s : State) : Result := .next (s.pullInstr State.loadX)

/-- `PLY`, R409. -/
def execPly (s : State) : Result := .next (s.pullInstr State.loadY)

/-- `RTI`, R410. -/
def execRti (s : State) : Result := .next s.returnFromInterrupt

/-- `RTS`, R411. -/
def execRts (s : State) : Result := .next s.returnFromSubroutine

end Sys2Proof.Machine
end

