-- ==== Sys2Proof/Machine/TestInstr.lean ====
section
/-!
DEFINITION. The meanings of the test instructions BIT, TRB, TSB, TST (47_test.md).
Each is one line over the shared operations.
-/

namespace Sys2Proof.Machine

/-- `BIT #nn`, R430. -/
def execBitImm (nn : Byte) (s : State) : Result := .next (s.withOperand (.imm nn) State.bitTest)

/-- `BIT zz`, R430. -/
def execBitZp (zz : Byte) (s : State) : Result :=
  .next (s.withOperand (.mem (.zp zz)) State.bitTest)

/-- `BIT zz,X`, R430. -/
def execBitZpX (zz : Byte) (s : State) : Result :=
  .next (s.withOperand (.mem (.zpX zz)) State.bitTest)

/-- `BIT hhll`, R430. -/
def execBitAbs (hhll : Word) (s : State) : Result :=
  .next (s.withOperand (.mem (.abs hhll)) State.bitTest)

/-- `BIT hhll,X`, R430. -/
def execBitAbsX (hhll : Word) (s : State) : Result :=
  .next (s.withOperand (.mem (.absX hhll)) State.bitTest)

/-- `TRB zz`, R431. -/
def execTrbZp (zz : Byte) (s : State) : Result := .next (s.rmw (trbOp s.a) (.zp zz))

/-- `TRB hhll`, R431. -/
def execTrbAbs (hhll : Word) (s : State) : Result := .next (s.rmw (trbOp s.a) (.abs hhll))

/-- `TSB zz`, R432. -/
def execTsbZp (zz : Byte) (s : State) : Result := .next (s.rmw (tsbOp s.a) (.zp zz))

/-- `TSB hhll`, R432. -/
def execTsbAbs (hhll : Word) (s : State) : Result := .next (s.rmw (tsbOp s.a) (.abs hhll))

/-- `TST #nn,zz`, R433. -/
def execTstImmZp (nn : Byte) (zz : Byte) (s : State) : Result := .next (s.testImm nn (.zp zz))

/-- `TST #nn,hhll`, R433. -/
def execTstImmAbs (nn : Byte) (hhll : Word) (s : State) : Result :=
  .next (s.testImm nn (.abs hhll))

/-- `TST #nn,zz,X`, R433. -/
def execTstImmZpX (nn : Byte) (zz : Byte) (s : State) : Result := .next (s.testImm nn (.zpX zz))

/-- `TST #nn,hhll,X`, R433. -/
def execTstImmAbsX (nn : Byte) (hhll : Word) (s : State) : Result :=
  .next (s.testImm nn (.absX hhll))

end Sys2Proof.Machine
end

