-- ==== Sys2Proof/Machine/Transfer.lean ====
section
/-!
DEFINITION. The meanings of the data transfer instructions (43_data_transfer.md).
Each is one line over the shared operations.
-/

namespace Sys2Proof.Machine

/-- `LDA #nn`, R300. -/
def execLdaImm (nn : Byte) (s : State) : Result := .next (s.withOperand (.imm nn) State.loadA)

/-- `LDA zz`, R300. -/
def execLdaZp (zz : Byte) (s : State) : Result :=
  .next (s.withOperand (.mem (.zp zz)) State.loadA)

/-- `LDA zz,X`, R300. -/
def execLdaZpX (zz : Byte) (s : State) : Result :=
  .next (s.withOperand (.mem (.zpX zz)) State.loadA)

/-- `LDA (zz)`, R300. -/
def execLdaInd (zz : Byte) (s : State) : Result :=
  .next (s.withOperand (.mem (.ind zz)) State.loadA)

/-- `LDA (zz,X)`, R300. -/
def execLdaIndX (zz : Byte) (s : State) : Result :=
  .next (s.withOperand (.mem (.indX zz)) State.loadA)

/-- `LDA (zz),Y`, R300. -/
def execLdaIndY (zz : Byte) (s : State) : Result :=
  .next (s.withOperand (.mem (.indY zz)) State.loadA)

/-- `LDA hhll`, R300. -/
def execLdaAbs (hhll : Word) (s : State) : Result :=
  .next (s.withOperand (.mem (.abs hhll)) State.loadA)

/-- `LDA hhll,X`, R300. -/
def execLdaAbsX (hhll : Word) (s : State) : Result :=
  .next (s.withOperand (.mem (.absX hhll)) State.loadA)

/-- `LDA hhll,Y`, R300. -/
def execLdaAbsY (hhll : Word) (s : State) : Result :=
  .next (s.withOperand (.mem (.absY hhll)) State.loadA)

/-- `LDX #nn`, R301. -/
def execLdxImm (nn : Byte) (s : State) : Result := .next (s.withOperand (.imm nn) State.loadX)

/-- `LDX zz`, R301. -/
def execLdxZp (zz : Byte) (s : State) : Result :=
  .next (s.withOperand (.mem (.zp zz)) State.loadX)

/-- `LDX zz,Y`, R301. -/
def execLdxZpY (zz : Byte) (s : State) : Result :=
  .next (s.withOperand (.mem (.zpY zz)) State.loadX)

/-- `LDX hhll`, R301. -/
def execLdxAbs (hhll : Word) (s : State) : Result :=
  .next (s.withOperand (.mem (.abs hhll)) State.loadX)

/-- `LDX hhll,Y`, R301. -/
def execLdxAbsY (hhll : Word) (s : State) : Result :=
  .next (s.withOperand (.mem (.absY hhll)) State.loadX)

/-- `LDY #nn`, R302. -/
def execLdyImm (nn : Byte) (s : State) : Result := .next (s.withOperand (.imm nn) State.loadY)

/-- `LDY zz`, R302. -/
def execLdyZp (zz : Byte) (s : State) : Result :=
  .next (s.withOperand (.mem (.zp zz)) State.loadY)

/-- `LDY zz,X`, R302. -/
def execLdyZpX (zz : Byte) (s : State) : Result :=
  .next (s.withOperand (.mem (.zpX zz)) State.loadY)

/-- `LDY hhll`, R302. -/
def execLdyAbs (hhll : Word) (s : State) : Result :=
  .next (s.withOperand (.mem (.abs hhll)) State.loadY)

/-- `LDY hhll,X`, R302. -/
def execLdyAbsX (hhll : Word) (s : State) : Result :=
  .next (s.withOperand (.mem (.absX hhll)) State.loadY)

/-- `STA zz`, R303. -/
def execStaZp (zz : Byte) (s : State) : Result := .next (s.storeTo (.zp zz) s.a)

/-- `STA zz,X`, R303. -/
def execStaZpX (zz : Byte) (s : State) : Result := .next (s.storeTo (.zpX zz) s.a)

/-- `STA (zz)`, R303. -/
def execStaInd (zz : Byte) (s : State) : Result := .next (s.storeTo (.ind zz) s.a)

/-- `STA (zz,X)`, R303. -/
def execStaIndX (zz : Byte) (s : State) : Result := .next (s.storeTo (.indX zz) s.a)

/-- `STA (zz),Y`, R303. -/
def execStaIndY (zz : Byte) (s : State) : Result := .next (s.storeTo (.indY zz) s.a)

/-- `STA hhll`, R303. -/
def execStaAbs (hhll : Word) (s : State) : Result := .next (s.storeTo (.abs hhll) s.a)

/-- `STA hhll,X`, R303. -/
def execStaAbsX (hhll : Word) (s : State) : Result := .next (s.storeTo (.absX hhll) s.a)

/-- `STA hhll,Y`, R303. -/
def execStaAbsY (hhll : Word) (s : State) : Result := .next (s.storeTo (.absY hhll) s.a)

/-- `STX zz`, R304. -/
def execStxZp (zz : Byte) (s : State) : Result := .next (s.storeTo (.zp zz) s.x)

/-- `STX zz,Y`, R304. -/
def execStxZpY (zz : Byte) (s : State) : Result := .next (s.storeTo (.zpY zz) s.x)

/-- `STX hhll`, R304. -/
def execStxAbs (hhll : Word) (s : State) : Result := .next (s.storeTo (.abs hhll) s.x)

/-- `STY zz`, R305. -/
def execStyZp (zz : Byte) (s : State) : Result := .next (s.storeTo (.zp zz) s.y)

/-- `STY zz,X`, R305. -/
def execStyZpX (zz : Byte) (s : State) : Result := .next (s.storeTo (.zpX zz) s.y)

/-- `STY hhll`, R305. -/
def execStyAbs (hhll : Word) (s : State) : Result := .next (s.storeTo (.abs hhll) s.y)

/-- `STZ zz`, R306. -/
def execStzZp (zz : Byte) (s : State) : Result := .next (s.storeTo (.zp zz) 0)

/-- `STZ zz,X`, R306. -/
def execStzZpX (zz : Byte) (s : State) : Result := .next (s.storeTo (.zpX zz) 0)

/-- `STZ hhll`, R306. -/
def execStzAbs (hhll : Word) (s : State) : Result := .next (s.storeTo (.abs hhll) 0)

/-- `STZ hhll,X`, R306. -/
def execStzAbsX (hhll : Word) (s : State) : Result := .next (s.storeTo (.absX hhll) 0)

/-- `SAX`, R307. -/
def execSax (s : State) : Result := .next (s.implied fun s => (s.setA s.x).setX s.a)

/-- `SAY`, R308. -/
def execSay (s : State) : Result := .next (s.implied fun s => (s.setA s.y).setY s.a)

/-- `SXY`, R309. -/
def execSxy (s : State) : Result := .next (s.implied fun s => (s.setX s.y).setY s.x)

/-- `TAX`, R310. -/
def execTax (s : State) : Result := .next (s.implied fun s => s.loadX s.a)

/-- `TAY`, R311. -/
def execTay (s : State) : Result := .next (s.implied fun s => s.loadY s.a)

/-- `TSX`, R312. -/
def execTsx (s : State) : Result := .next (s.implied fun s => s.loadX s.sp)

/-- `TXA`, R313. -/
def execTxa (s : State) : Result := .next (s.implied fun s => s.loadA s.x)

/-- `TXS`, R314. -/
def execTxs (s : State) : Result := .next (s.implied fun s => s.setSp s.x)

/-- `TYA`, R315. -/
def execTya (s : State) : Result := .next (s.implied fun s => s.loadA s.y)

/-- `ST0 #nn`, R316. -/
def execSt0 (nn : Byte) (s : State) : Result := .next (s.storeImmediate 0x1FE000#21 nn)

/-- `ST1 #nn`, R317. -/
def execSt1 (nn : Byte) (s : State) : Result := .next (s.storeImmediate 0x1FE002#21 nn)

/-- `ST2 #nn`, R318. -/
def execSt2 (nn : Byte) (s : State) : Result := .next (s.storeImmediate 0x1FE003#21 nn)

/-- `TAM #mask`, R319. -/
def execTam (mask : Byte) (s : State) : Result := .next ((s.clearT.loadMpr mask).advance 2)

/-- `TMA #mask`, R320. Mask $00 reads the last value TAM transferred, a one-hot mask that register; no
flag but T is written. Two or more mask bits are refused (log 12). -/
def execTma (mask : Byte) (s : State) : Result :=
  if atMostOneBit mask then .next ((s.clearT.setA (s.readMpr mask)).advance 2)
  else .refused (.tmaMultipleBits mask)

end Sys2Proof.Machine
end

