-- ==== Sys2Proof/Machine/Dispatch.lean ====
section
/-!
DEFINITION. The dispatch: one arm for each constructor of `Instr`.
-/

namespace Sys2Proof.Machine

/-- The effect of an instruction (step (3) of 10_state.md R54 after the fetch). -/
def exec (i : Instr) (s : State) : Host.Outcome State Fault Refusal :=
  match i with
  -- Arithmetic, compare and logic (40_alu_arith_logic.md)
  | .adcImm nn => Sys2Proof.Machine.execAdcImm nn s
  | .adcZp zz => Sys2Proof.Machine.execAdcZp zz s
  | .adcZpX zz => Sys2Proof.Machine.execAdcZpX zz s
  | .adcInd zz => Sys2Proof.Machine.execAdcInd zz s
  | .adcIndX zz => Sys2Proof.Machine.execAdcIndX zz s
  | .adcIndY zz => Sys2Proof.Machine.execAdcIndY zz s
  | .adcAbs hhll => Sys2Proof.Machine.execAdcAbs hhll s
  | .adcAbsX hhll => Sys2Proof.Machine.execAdcAbsX hhll s
  | .adcAbsY hhll => Sys2Proof.Machine.execAdcAbsY hhll s
  | .andImm nn => Sys2Proof.Machine.execAndImm nn s
  | .andZp zz => Sys2Proof.Machine.execAndZp zz s
  | .andZpX zz => Sys2Proof.Machine.execAndZpX zz s
  | .andInd zz => Sys2Proof.Machine.execAndInd zz s
  | .andIndX zz => Sys2Proof.Machine.execAndIndX zz s
  | .andIndY zz => Sys2Proof.Machine.execAndIndY zz s
  | .andAbs hhll => Sys2Proof.Machine.execAndAbs hhll s
  | .andAbsX hhll => Sys2Proof.Machine.execAndAbsX hhll s
  | .andAbsY hhll => Sys2Proof.Machine.execAndAbsY hhll s
  | .cmpImm nn => Sys2Proof.Machine.execCmpImm nn s
  | .cmpZp zz => Sys2Proof.Machine.execCmpZp zz s
  | .cmpZpX zz => Sys2Proof.Machine.execCmpZpX zz s
  | .cmpInd zz => Sys2Proof.Machine.execCmpInd zz s
  | .cmpIndX zz => Sys2Proof.Machine.execCmpIndX zz s
  | .cmpIndY zz => Sys2Proof.Machine.execCmpIndY zz s
  | .cmpAbs hhll => Sys2Proof.Machine.execCmpAbs hhll s
  | .cmpAbsX hhll => Sys2Proof.Machine.execCmpAbsX hhll s
  | .cmpAbsY hhll => Sys2Proof.Machine.execCmpAbsY hhll s
  | .cpxImm nn => Sys2Proof.Machine.execCpxImm nn s
  | .cpxZp zz => Sys2Proof.Machine.execCpxZp zz s
  | .cpxAbs hhll => Sys2Proof.Machine.execCpxAbs hhll s
  | .cpyImm nn => Sys2Proof.Machine.execCpyImm nn s
  | .cpyZp zz => Sys2Proof.Machine.execCpyZp zz s
  | .cpyAbs hhll => Sys2Proof.Machine.execCpyAbs hhll s
  | .eorImm nn => Sys2Proof.Machine.execEorImm nn s
  | .eorZp zz => Sys2Proof.Machine.execEorZp zz s
  | .eorZpX zz => Sys2Proof.Machine.execEorZpX zz s
  | .eorInd zz => Sys2Proof.Machine.execEorInd zz s
  | .eorIndX zz => Sys2Proof.Machine.execEorIndX zz s
  | .eorIndY zz => Sys2Proof.Machine.execEorIndY zz s
  | .eorAbs hhll => Sys2Proof.Machine.execEorAbs hhll s
  | .eorAbsX hhll => Sys2Proof.Machine.execEorAbsX hhll s
  | .eorAbsY hhll => Sys2Proof.Machine.execEorAbsY hhll s
  | .oraImm nn => Sys2Proof.Machine.execOraImm nn s
  | .oraZp zz => Sys2Proof.Machine.execOraZp zz s
  | .oraZpX zz => Sys2Proof.Machine.execOraZpX zz s
  | .oraInd zz => Sys2Proof.Machine.execOraInd zz s
  | .oraIndX zz => Sys2Proof.Machine.execOraIndX zz s
  | .oraIndY zz => Sys2Proof.Machine.execOraIndY zz s
  | .oraAbs hhll => Sys2Proof.Machine.execOraAbs hhll s
  | .oraAbsX hhll => Sys2Proof.Machine.execOraAbsX hhll s
  | .oraAbsY hhll => Sys2Proof.Machine.execOraAbsY hhll s
  | .sbcImm nn => Sys2Proof.Machine.execSbcImm nn s
  | .sbcZp zz => Sys2Proof.Machine.execSbcZp zz s
  | .sbcZpX zz => Sys2Proof.Machine.execSbcZpX zz s
  | .sbcInd zz => Sys2Proof.Machine.execSbcInd zz s
  | .sbcIndX zz => Sys2Proof.Machine.execSbcIndX zz s
  | .sbcIndY zz => Sys2Proof.Machine.execSbcIndY zz s
  | .sbcAbs hhll => Sys2Proof.Machine.execSbcAbs hhll s
  | .sbcAbsX hhll => Sys2Proof.Machine.execSbcAbsX hhll s
  | .sbcAbsY hhll => Sys2Proof.Machine.execSbcAbsY hhll s
  -- Shifts, rotates, increments, decrements, clears (41_alu_shift_incdec.md)
  | .aslAcc => Sys2Proof.Machine.execAslAcc s
  | .aslZp zz => Sys2Proof.Machine.execAslZp zz s
  | .aslZpX zz => Sys2Proof.Machine.execAslZpX zz s
  | .aslAbs hhll => Sys2Proof.Machine.execAslAbs hhll s
  | .aslAbsX hhll => Sys2Proof.Machine.execAslAbsX hhll s
  | .lsrAcc => Sys2Proof.Machine.execLsrAcc s
  | .lsrZp zz => Sys2Proof.Machine.execLsrZp zz s
  | .lsrZpX zz => Sys2Proof.Machine.execLsrZpX zz s
  | .lsrAbs hhll => Sys2Proof.Machine.execLsrAbs hhll s
  | .lsrAbsX hhll => Sys2Proof.Machine.execLsrAbsX hhll s
  | .rolAcc => Sys2Proof.Machine.execRolAcc s
  | .rolZp zz => Sys2Proof.Machine.execRolZp zz s
  | .rolZpX zz => Sys2Proof.Machine.execRolZpX zz s
  | .rolAbs hhll => Sys2Proof.Machine.execRolAbs hhll s
  | .rolAbsX hhll => Sys2Proof.Machine.execRolAbsX hhll s
  | .rorAcc => Sys2Proof.Machine.execRorAcc s
  | .rorZp zz => Sys2Proof.Machine.execRorZp zz s
  | .rorZpX zz => Sys2Proof.Machine.execRorZpX zz s
  | .rorAbs hhll => Sys2Proof.Machine.execRorAbs hhll s
  | .rorAbsX hhll => Sys2Proof.Machine.execRorAbsX hhll s
  | .incAcc => Sys2Proof.Machine.execIncAcc s
  | .incZp zz => Sys2Proof.Machine.execIncZp zz s
  | .incZpX zz => Sys2Proof.Machine.execIncZpX zz s
  | .incAbs hhll => Sys2Proof.Machine.execIncAbs hhll s
  | .incAbsX hhll => Sys2Proof.Machine.execIncAbsX hhll s
  | .decAcc => Sys2Proof.Machine.execDecAcc s
  | .decZp zz => Sys2Proof.Machine.execDecZp zz s
  | .decZpX zz => Sys2Proof.Machine.execDecZpX zz s
  | .decAbs hhll => Sys2Proof.Machine.execDecAbs hhll s
  | .decAbsX hhll => Sys2Proof.Machine.execDecAbsX hhll s
  | .inx => Sys2Proof.Machine.execInx s
  | .iny => Sys2Proof.Machine.execIny s
  | .dex => Sys2Proof.Machine.execDex s
  | .dey => Sys2Proof.Machine.execDey s
  | .cla => Sys2Proof.Machine.execCla s
  | .clx => Sys2Proof.Machine.execClx s
  | .cly => Sys2Proof.Machine.execCly s
  -- Flags (42_flag.md)
  | .clc => Sys2Proof.Machine.execClc s
  | .cld => Sys2Proof.Machine.execCld s
  | .cli => Sys2Proof.Machine.execCli s
  | .clv => Sys2Proof.Machine.execClv s
  | .sec => Sys2Proof.Machine.execSec s
  | .sed => Sys2Proof.Machine.execSed s
  | .sei => Sys2Proof.Machine.execSei s
  | .setT => Sys2Proof.Machine.execSetT s
  -- Data transfer (43_data_transfer.md)
  | .ldaImm nn => Sys2Proof.Machine.execLdaImm nn s
  | .ldaZp zz => Sys2Proof.Machine.execLdaZp zz s
  | .ldaZpX zz => Sys2Proof.Machine.execLdaZpX zz s
  | .ldaInd zz => Sys2Proof.Machine.execLdaInd zz s
  | .ldaIndX zz => Sys2Proof.Machine.execLdaIndX zz s
  | .ldaIndY zz => Sys2Proof.Machine.execLdaIndY zz s
  | .ldaAbs hhll => Sys2Proof.Machine.execLdaAbs hhll s
  | .ldaAbsX hhll => Sys2Proof.Machine.execLdaAbsX hhll s
  | .ldaAbsY hhll => Sys2Proof.Machine.execLdaAbsY hhll s
  | .ldxImm nn => Sys2Proof.Machine.execLdxImm nn s
  | .ldxZp zz => Sys2Proof.Machine.execLdxZp zz s
  | .ldxZpY zz => Sys2Proof.Machine.execLdxZpY zz s
  | .ldxAbs hhll => Sys2Proof.Machine.execLdxAbs hhll s
  | .ldxAbsY hhll => Sys2Proof.Machine.execLdxAbsY hhll s
  | .ldyImm nn => Sys2Proof.Machine.execLdyImm nn s
  | .ldyZp zz => Sys2Proof.Machine.execLdyZp zz s
  | .ldyZpX zz => Sys2Proof.Machine.execLdyZpX zz s
  | .ldyAbs hhll => Sys2Proof.Machine.execLdyAbs hhll s
  | .ldyAbsX hhll => Sys2Proof.Machine.execLdyAbsX hhll s
  | .staZp zz => Sys2Proof.Machine.execStaZp zz s
  | .staZpX zz => Sys2Proof.Machine.execStaZpX zz s
  | .staInd zz => Sys2Proof.Machine.execStaInd zz s
  | .staIndX zz => Sys2Proof.Machine.execStaIndX zz s
  | .staIndY zz => Sys2Proof.Machine.execStaIndY zz s
  | .staAbs hhll => Sys2Proof.Machine.execStaAbs hhll s
  | .staAbsX hhll => Sys2Proof.Machine.execStaAbsX hhll s
  | .staAbsY hhll => Sys2Proof.Machine.execStaAbsY hhll s
  | .stxZp zz => Sys2Proof.Machine.execStxZp zz s
  | .stxZpY zz => Sys2Proof.Machine.execStxZpY zz s
  | .stxAbs hhll => Sys2Proof.Machine.execStxAbs hhll s
  | .styZp zz => Sys2Proof.Machine.execStyZp zz s
  | .styZpX zz => Sys2Proof.Machine.execStyZpX zz s
  | .styAbs hhll => Sys2Proof.Machine.execStyAbs hhll s
  | .stzZp zz => Sys2Proof.Machine.execStzZp zz s
  | .stzZpX zz => Sys2Proof.Machine.execStzZpX zz s
  | .stzAbs hhll => Sys2Proof.Machine.execStzAbs hhll s
  | .stzAbsX hhll => Sys2Proof.Machine.execStzAbsX hhll s
  | .sax => Sys2Proof.Machine.execSax s
  | .say => Sys2Proof.Machine.execSay s
  | .sxy => Sys2Proof.Machine.execSxy s
  | .tax => Sys2Proof.Machine.execTax s
  | .tay => Sys2Proof.Machine.execTay s
  | .tsx => Sys2Proof.Machine.execTsx s
  | .txa => Sys2Proof.Machine.execTxa s
  | .txs => Sys2Proof.Machine.execTxs s
  | .tya => Sys2Proof.Machine.execTya s
  | .st0 nn => Sys2Proof.Machine.execSt0 nn s
  | .st1 nn => Sys2Proof.Machine.execSt1 nn s
  | .st2 nn => Sys2Proof.Machine.execSt2 nn s
  | .tam mask => Sys2Proof.Machine.execTam mask s
  | .tma mask => Sys2Proof.Machine.execTma mask s
  -- Block transfer (44_block_transfer.md)
  | .tii ssss dddd llll => Sys2Proof.Machine.execTii ssss dddd llll s
  | .tdd ssss dddd llll => Sys2Proof.Machine.execTdd ssss dddd llll s
  | .tin ssss dddd llll => Sys2Proof.Machine.execTin ssss dddd llll s
  | .tia ssss dddd llll => Sys2Proof.Machine.execTia ssss dddd llll s
  | .tai ssss dddd llll => Sys2Proof.Machine.execTai ssss dddd llll s
  -- Branches and jumps (45_branch.md)
  | .bbr0 zz rr => Sys2Proof.Machine.execBbr0 zz rr s
  | .bbr1 zz rr => Sys2Proof.Machine.execBbr1 zz rr s
  | .bbr2 zz rr => Sys2Proof.Machine.execBbr2 zz rr s
  | .bbr3 zz rr => Sys2Proof.Machine.execBbr3 zz rr s
  | .bbr4 zz rr => Sys2Proof.Machine.execBbr4 zz rr s
  | .bbr5 zz rr => Sys2Proof.Machine.execBbr5 zz rr s
  | .bbr6 zz rr => Sys2Proof.Machine.execBbr6 zz rr s
  | .bbr7 zz rr => Sys2Proof.Machine.execBbr7 zz rr s
  | .bbs0 zz rr => Sys2Proof.Machine.execBbs0 zz rr s
  | .bbs1 zz rr => Sys2Proof.Machine.execBbs1 zz rr s
  | .bbs2 zz rr => Sys2Proof.Machine.execBbs2 zz rr s
  | .bbs3 zz rr => Sys2Proof.Machine.execBbs3 zz rr s
  | .bbs4 zz rr => Sys2Proof.Machine.execBbs4 zz rr s
  | .bbs5 zz rr => Sys2Proof.Machine.execBbs5 zz rr s
  | .bbs6 zz rr => Sys2Proof.Machine.execBbs6 zz rr s
  | .bbs7 zz rr => Sys2Proof.Machine.execBbs7 zz rr s
  | .bcc rr => Sys2Proof.Machine.execBcc rr s
  | .bcs rr => Sys2Proof.Machine.execBcs rr s
  | .beq rr => Sys2Proof.Machine.execBeq rr s
  | .bmi rr => Sys2Proof.Machine.execBmi rr s
  | .bne rr => Sys2Proof.Machine.execBne rr s
  | .bpl rr => Sys2Proof.Machine.execBpl rr s
  | .bra rr => Sys2Proof.Machine.execBra rr s
  | .bvc rr => Sys2Proof.Machine.execBvc rr s
  | .bvs rr => Sys2Proof.Machine.execBvs rr s
  | .jmpAbs hhll => Sys2Proof.Machine.execJmpAbs hhll s
  | .jmpAbsInd hhll => Sys2Proof.Machine.execJmpAbsInd hhll s
  | .jmpAbsXInd hhll => Sys2Proof.Machine.execJmpAbsXInd hhll s
  -- Subroutines, stack, returns (46_subroutine_stack.md)
  | .bsr rr => Sys2Proof.Machine.execBsr rr s
  | .jsr hhll => Sys2Proof.Machine.execJsr hhll s
  | .pha => Sys2Proof.Machine.execPha s
  | .php => Sys2Proof.Machine.execPhp s
  | .phx => Sys2Proof.Machine.execPhx s
  | .phy => Sys2Proof.Machine.execPhy s
  | .pla => Sys2Proof.Machine.execPla s
  | .plp => Sys2Proof.Machine.execPlp s
  | .plx => Sys2Proof.Machine.execPlx s
  | .ply => Sys2Proof.Machine.execPly s
  | .rti => Sys2Proof.Machine.execRti s
  | .rts => Sys2Proof.Machine.execRts s
  -- Tests (47_test.md)
  | .bitImm nn => Sys2Proof.Machine.execBitImm nn s
  | .bitZp zz => Sys2Proof.Machine.execBitZp zz s
  | .bitZpX zz => Sys2Proof.Machine.execBitZpX zz s
  | .bitAbs hhll => Sys2Proof.Machine.execBitAbs hhll s
  | .bitAbsX hhll => Sys2Proof.Machine.execBitAbsX hhll s
  | .trbZp zz => Sys2Proof.Machine.execTrbZp zz s
  | .trbAbs hhll => Sys2Proof.Machine.execTrbAbs hhll s
  | .tsbZp zz => Sys2Proof.Machine.execTsbZp zz s
  | .tsbAbs hhll => Sys2Proof.Machine.execTsbAbs hhll s
  | .tstImmZp nn zz => Sys2Proof.Machine.execTstImmZp nn zz s
  | .tstImmAbs nn hhll => Sys2Proof.Machine.execTstImmAbs nn hhll s
  | .tstImmZpX nn zz => Sys2Proof.Machine.execTstImmZpX nn zz s
  | .tstImmAbsX nn hhll => Sys2Proof.Machine.execTstImmAbsX nn hhll s
  -- Control (48_control.md)
  | .brk => Sys2Proof.Machine.execBrk s
  | .nop => Sys2Proof.Machine.execNop s
  | .rmb0 zz => Sys2Proof.Machine.execRmb0 zz s
  | .rmb1 zz => Sys2Proof.Machine.execRmb1 zz s
  | .rmb2 zz => Sys2Proof.Machine.execRmb2 zz s
  | .rmb3 zz => Sys2Proof.Machine.execRmb3 zz s
  | .rmb4 zz => Sys2Proof.Machine.execRmb4 zz s
  | .rmb5 zz => Sys2Proof.Machine.execRmb5 zz s
  | .rmb6 zz => Sys2Proof.Machine.execRmb6 zz s
  | .rmb7 zz => Sys2Proof.Machine.execRmb7 zz s
  | .smb0 zz => Sys2Proof.Machine.execSmb0 zz s
  | .smb1 zz => Sys2Proof.Machine.execSmb1 zz s
  | .smb2 zz => Sys2Proof.Machine.execSmb2 zz s
  | .smb3 zz => Sys2Proof.Machine.execSmb3 zz s
  | .smb4 zz => Sys2Proof.Machine.execSmb4 zz s
  | .smb5 zz => Sys2Proof.Machine.execSmb5 zz s
  | .smb6 zz => Sys2Proof.Machine.execSmb6 zz s
  | .smb7 zz => Sys2Proof.Machine.execSmb7 zz s
  | .csh => Sys2Proof.Machine.execCsh s
  | .csl => Sys2Proof.Machine.execCsl s

end Sys2Proof.Machine
end

