-- ==== Sys2Proof/Machine/Step.lean ====
section
/-!
DEFINITION. One step of the machine (10_state.md R54), and how the host places an instruction where
the next step fetches it.
-/

namespace Sys2Proof.Machine

/-- One step: RESET, the entry of the interrupt the last sample selected, or one instruction and the
sample after it (10_state.md R54). What stands around `exec` is in `State.plan` and
`State.sampleAfter`. -/
def step (s : State) : Host.Outcome State Fault Refusal :=
  match s.plan with
  | .done t => .next t
  | .refuse r => .refused r
  | .run i s1 =>
    match exec i s1 with
    | .next t => .next (State.sampleAfter i s1 t)
    | .fault f => .fault f
    | .refused r => .refused r

/-- Puts bytes into memory at the physical addresses of rising logical addresses. -/
def State.placeBytes (s : State) : List Byte → Word → State
  | [], _ => s
  | b :: bs, la =>
    State.placeBytes { s with mem := s.mem.write (s.translate la).toNat b } bs (la + 1)

/-- Places an instruction of the opcode table at PC, as the load of a program from outside would
(log 4). So that the very next step runs it, nothing else may divert control: no interrupt is selected,
no RESET waits and no event of the environment comes first. -/
def State.withFetchWord (s : State) (nbits w : Nat) : State :=
  let s := { s with
    intSel := .none
    io := { s.io with resetPending := false, schedule := [] } }
  s.placeBytes (tableWordBytes nbits w) s.pc

end Sys2Proof.Machine
end

