-- ==== Sys2Proof/Machine/Timing.lean ====
section
/-!
DEFINITION. The number of bus cycles of an instruction (70_reset_and_hazards.md R620 to R622). It is
information beside the step: no rule of the functional model depends on it (00_scope.md R12; log 23).
-/

namespace Sys2Proof.Machine

/-- Cycles by format: `imp` for IMP and ACC, `imm` for the two-byte formats without an address, `zp`
for the zero-page formats, `abs` for the absolute ones, `ind` for IND, INDX and INDY
(70_reset_and_hazards.md R621). -/
def formCycles (imp imm zp abs ind : Nat) : Form → Nat
  | .imp | .acc => imp
  | .mpr _ | .imm _ | .rel _ => imm
  | .mem (.zp _) | .mem (.zpX _) | .mem (.zpY _) => zp
  | .immMem _ (.zp _) | .immMem _ (.zpX _) | .immMem _ (.zpY _) | .zpRel _ _ => zp
  | .mem (.abs _) | .mem (.absX _) | .mem (.absY _) => abs
  | .immMem _ (.abs _) | .immMem _ (.absX _) | .immMem _ (.absY _) => abs
  | .mem (.ind _) | .mem (.indX _) | .mem (.indY _) | .absInd _ | .absXInd _ => ind
  | .immMem _ (.ind _) | .immMem _ (.indX _) | .immMem _ (.indY _) => ind
  | .blk _ _ llll => 17 + 6 * blockCount llll

/-- Cycles without the modifiers of 70_reset_and_hazards.md R622 (R621; for ST0 to ST2 the count of
the vendor manuals, 90_conflicts.md C4). -/
def baseCycles (m : Mnemonic) (f : Form) : Nat :=
  match m with
  | .adc | .and | .cmp | .eor | .lda | .ora | .sbc | .sta | .ldx | .ldy | .stx | .sty | .stz
  | .cpx | .cpy | .bit => formCycles 2 2 4 5 7 f
  | .asl | .lsr | .rol | .ror | .inc | .dec | .trb | .tsb => formCycles 2 2 6 7 7 f
  | .rmb _ | .smb _ => formCycles 2 2 7 7 7 f
  | .tst => formCycles 2 2 7 8 8 f
  | .jmp => formCycles 4 4 4 4 7 f
  | .jsr | .rts | .rti => 7
  | .bsr | .brk => 8
  | .bra => 4
  | .bcc | .bcs | .beq | .bmi | .bne | .bpl | .bvc | .bvs => 2
  | .bbr _ | .bbs _ => 6
  | .pha | .php | .phx | .phy => 3
  | .pla | .plp | .plx | .ply => 4
  | .sax | .say | .sxy | .csh | .csl => 3
  | .st0 | .st1 | .st2 | .tma => 4
  | .tam => 5
  | .tii | .tdd | .tin | .tia | .tai => formCycles 2 2 4 5 7 f
  | .cla | .clx | .cly | .clc | .cld | .cli | .clv | .sec | .sed | .sei | .setT | .dex | .dey | .inx
  | .iny | .nop | .tax | .tay | .tsx | .txa | .txs | .tya => 2

/-- Whether a conditional branch is taken in a state (45_branch.md R371 to R381). -/
def branchTaken (m : Mnemonic) (f : Form) (s : State) : Bool :=
  match m, f with
  | .bcc, _ => !s.p.c
  | .bcs, _ => s.p.c
  | .bne, _ => !s.p.z
  | .beq, _ => s.p.z
  | .bpl, _ => !s.p.n
  | .bmi, _ => s.p.n
  | .bvc, _ => !s.p.v
  | .bvs, _ => s.p.v
  | .bbr i, .zpRel zz _ => !(s.memRead (zpAddr zz)).1.getLsbD i.val
  | .bbs i, .zpRel zz _ => (s.memRead (zpAddr zz)).1.getLsbD i.val
  | _, _ => false

/-- Decimal arithmetic takes one cycle more (70_reset_and_hazards.md R622 (a)). -/
def decimalCycles (m : Mnemonic) (s : State) : Nat :=
  if (m = .adc ∨ m = .sbc) ∧ s.p.d then 1 else 0

/-- T mode takes three cycles more (70_reset_and_hazards.md R622 (b)). -/
def tModeCycles (m : Mnemonic) (s : State) : Nat :=
  if (m = .adc ∨ m = .and ∨ m = .eor ∨ m = .ora) ∧ s.p.t then 3 else 0

/-- How the two addresses of a block transfer move (44_block_transfer.md R351 to R355). -/
def blockMotions : Mnemonic → Option (Motion × Motion)
  | .tii => some (.increment, .increment)
  | .tdd => some (.decrement, .decrement)
  | .tin => some (.increment, .fixed)
  | .tia => some (.increment, .alternate)
  | .tai => some (.alternate, .increment)
  | _ => none

/-- Whether a logical address selects the HuC6270 (20_memory.md R101, R104). -/
def State.selectsVdc (s : State) (la : Word) : Bool := busTarget (s.translate la) == .huc6270

/-- The further cycles of one byte of a block transfer with `left` bytes to come: a free number, never
none, where its source or its destination is the HuC6270 (70_reset_and_hazards.md R622 (e); log 23). -/
def State.vdcByteCycles (s : State) (left : Nat) (source target : Word) : Nat :=
  if s.selectsVdc source || s.selectsVdc target then
    Config.vdcByteCycles s.io.deviceLog left + 1
  else 0

/-- The further cycles of the bytes of a block transfer, whose addresses move as in `State.blockLoop`. -/
def State.vdcBlockCycles (s : State) (src dst : Motion) : Nat → Word → Word → Bool → Nat
  | 0, _, _, _ => 0
  | n + 1, ssss, dddd, alt =>
    s.vdcByteCycles n (motionAddr src ssss alt) (motionAddr dst dddd alt) +
      s.vdcBlockCycles src dst n (motionNext src ssss) (motionNext dst dddd) (!alt)

/-- The further cycles of an instruction that moves bytes from or to the HuC6270
(70_reset_and_hazards.md R622 (e); log 23): none but for a block transfer. -/
def vdcCycles (m : Mnemonic) (f : Form) (s : State) : Nat :=
  match blockMotions m, f with
  | some (src, dst), .blk ssss dddd llll =>
    s.vdcBlockCycles src dst (blockCount llll) ssss dddd false
  | _, _ => 0

/-- The bus cycles of an instruction executed in a state (the state after its fetch, P.T not yet
cleared): the base count, decimal mode, T mode, two more for a branch that is taken, and the further
cycles of a block transfer from or to the HuC6270 (70_reset_and_hazards.md R621, R622). -/
def cycleCount (i : Instr) (s : State) : Nat :=
  baseCycles i.mnemonic i.form + decimalCycles i.mnemonic s + tModeCycles i.mnemonic s +
    (if branchTaken i.mnemonic i.form s then 2 else 0) + vdcCycles i.mnemonic i.form s

end Sys2Proof.Machine
end

