-- ==== Sys2Proof/Safety.lean ====
section
/-!
DEFINITION. What the claims speak of: the invariant of the machine, when the environment is at rest,
what a state holds in memory, what an instruction stores, and the state an interrupt entry leads to.
-/

namespace Sys2Proof.Machine

/-- The invariant every step keeps: memory is in its canonical form and lists the external bus only
(20_memory.md R103, R104), and NMI is selected only while its edge is latched (60_exceptions.md R510,
R512). -/
structure State.Inv (s : State) : Prop where
  memCanonical : s.mem.wf = true
  memExternal : s.mem.below blockFFBase = true
  nmiLatched : s.intSel = .nmi → s.io.nmiPending = true

/-- The environment is at rest: no event is to come, the timer is stopped, no read is marked, no RESET
waits. -/
def State.atRest (s : State) : Bool :=
  s.io.schedule.isEmpty && !s.io.timer.start && !s.io.glitch && !s.io.resetPending

/-- RAM or ROM holds these bytes at rising logical addresses. -/
def State.holds (s : State) : Word → List Byte → Bool
  | _, [] => true
  | la, b :: bs =>
    s.isMemory (s.translate la) && s.peek (s.translate la) == b && s.holds (la + 1) bs

/-- No byte of memory differs. -/
def SameMemory (s t : State) : Prop := ∀ q : PhysAddr, t.peek q = s.peek q

/-- From `s` to `t` one byte was stored at `pa`: every other byte of memory reads as before, and, memory
being canonical, the byte at `pa` is the stored one where RAM answers and as before where none does. -/
def StoredByte (s t : State) (pa : PhysAddr) (v : Byte) : Prop :=
  (∀ q : PhysAddr, q ≠ pa → t.peek q = s.peek q) ∧
    (s.mem.wf = true → t.peek pa = if s.isRam pa then v else s.peek pa)

/-- The physical address of the stack byte `k` below the stack pointer, S wrapping modulo 256. -/
def State.stackSlot (s : State) (k : Byte) : PhysAddr := s.translate (stackAddr (s.sp - k))

/-- From `s` to `t` these bytes were pushed: the first at `$2100 + S`, each next one below it, S wrapping
modulo 256. Every other byte of memory reads as before; memory being canonical, each pushed byte is
there where RAM answers. -/
def PushedBytes (s t : State) (bytes : List Byte) : Prop :=
  (∀ q : PhysAddr, (∀ k : Nat, k < bytes.length → q ≠ s.stackSlot (BitVec.ofNat 8 k)) →
    t.peek q = s.peek q) ∧
  (s.mem.wf = true → ∀ k : Nat, k < bytes.length →
    t.peek (s.stackSlot (BitVec.ofNat 8 k)) =
      if s.isRam (s.stackSlot (BitVec.ofNat 8 k)) then bytes.getD k 0
      else s.peek (s.stackSlot (BitVec.ofNat 8 k)))

/-- The state after pushing PCH, PCL and a status byte: the three writes in their order
(60_exceptions.md R520). -/
def State.pushedFrame (s : State) (ret : Word) (status : Byte) : State :=
  ((s.memWrite (stackAddr s.sp) (hiByte ret)).memWrite (stackAddr (s.sp - 1)) (loByte ret)).memWrite
    (stackAddr (s.sp - 2)) status

/-- The state an entry sequence leads to (60_exceptions.md R520), written field by field: three bytes
pushed, S down by 3, T and D reset, I set, the program counter from the two bytes at the vector, no
interrupt selected, everything else as it was. -/
def State.entered (s : State) (vector : Word) (b : Bool) (ret : Word) : State :=
  let w := s.pushedFrame ret (s.p.toByte b)
  let lo := w.memRead vector
  let hi := lo.2.memRead (vector + 1)
  { s with
    pc := joinBytes hi.1 lo.1, sp := s.sp - 3
    p := { s.p with t := false, d := false, i := true }
    intSel := .none, mem := w.mem, io := hi.2.io }

/-- The vector of each hardware interrupt (20_memory.md R112). -/
def vectorOf : IntSel → Word
  | .none => 0
  | .nmi => 0xFFFC#16
  | .timer => 0xFFFA#16
  | .irq1 => 0xFFF8#16
  | .irq2 => 0xFFF6#16

/-- The address of byte `k` of a block transfer (44_block_transfer.md R350): the base moved by the step
`k` times, or the base and base + 1 in turn. -/
def motionAt (m : Motion) (base : Word) (k : Nat) : Word :=
  match m with
  | .increment => base + BitVec.ofNat 16 k
  | .decrement => base - BitVec.ofNat 16 k
  | .fixed => base
  | .alternate => if k % 2 = 1 then base + 1 else base

/-- The state after the first `k` bytes of a block transfer: each is read at its source address and then
written at its destination address (44_block_transfer.md R350). -/
def State.moved (s : State) (src dst : Motion) (ssss dddd : Word) : Nat → State
  | 0 => s
  | k + 1 =>
    let r := (s.moved src dst ssss dddd k).memRead (motionAt src ssss k)
    r.2.memWrite (motionAt dst dddd k) r.1

/-- A cycle count by addressing mode: the zero-page modes, the absolute modes, the modes through a
pointer (the columns of the table of 70_reset_and_hazards.md R621). -/
def cyclesByMode (zp abs ind : Nat) : Ea → Nat
  | .zp _ | .zpX _ | .zpY _ => zp
  | .abs _ | .absX _ | .absY _ => abs
  | .ind _ | .indX _ | .indY _ => ind

end Sys2Proof.Machine
end

