-- ==== Sys2Proof/Certificates/Slice0/Obligations.lean ====
section
/-!
DEFINITION. The statements for the provers. `{ s.p with t := false }` is the status after the fetch
cleared T (10_state.md R54); the next states are written out field by field, so that what a statement
does not name is unchanged. `SameMemory`, `StoredByte` and `PushedBytes` (Safety.lean) say the frame of
memory byte by byte.
-/

open Sys2Proof Sys2Proof.Machine

/-! Encoding (30_encoding.md). -/

/-- Decoding the encoding of an instruction, whatever follows it, gives the instruction back, with
every operand at every value (R150, R151, R155, R174). -/
def Obligations.DecodeOfEncode : Prop :=
  ∀ (i : Instr) (rest : List Byte), decode (encode i ++ rest) = .ok (i, rest)

/-- Bytes that decode to an instruction are its encoding: an instruction has one encoding (R178 (d)). -/
def Obligations.EncodeOfDecode : Prop :=
  ∀ (bytes rest : List Byte) (i : Instr), decode bytes = .ok (i, rest) → bytes = encode i ++ rest

/-- The decoder refuses the 22 undefined opcode bytes and no other (R176). -/
def Obligations.UndefinedOpcodes : Prop :=
  ∀ (op : Byte) (rest : List Byte),
    decode (op :: rest) = .error (.illegalOpcode op) ↔
      op ∈ [0x0B#8, 0x1B#8, 0x2B#8, 0x33#8, 0x3B#8, 0x4B#8, 0x5B#8, 0x5C#8, 0x63#8, 0x6B#8, 0x7B#8,
        0x8B#8, 0x9B#8, 0xAB#8, 0xBB#8, 0xCB#8, 0xDB#8, 0xDC#8, 0xE2#8, 0xEB#8, 0xFB#8, 0xFC#8]

/-- Words written out from the formats of R152 to R173 decode to the instructions they stand for: one or
more words of each family (files 40 to 48) and of each format. -/
def Obligations.WordsDecodeAsWritten : Prop :=
  decodeTableWord 8 0xE8 = some .inx ∧
  decodeTableWord 8 0x0A = some .aslAcc ∧
  decodeTableWord 8 0xF4 = some .setT ∧
  decodeTableWord 8 0x48 = some .pha ∧
  decodeTableWord 16 0x1069 = some (.adcImm 0x10) ∧
  decodeTableWord 16 0x10A5 = some (.ldaZp 0x10) ∧
  decodeTableWord 16 0x20B5 = some (.ldaZpX 0x20) ∧
  decodeTableWord 16 0x20B6 = some (.ldxZpY 0x20) ∧
  decodeTableWord 16 0x20B2 = some (.ldaInd 0x20) ∧
  decodeTableWord 16 0x20A1 = some (.ldaIndX 0x20) ∧
  decodeTableWord 16 0x20B1 = some (.ldaIndY 0x20) ∧
  decodeTableWord 16 0x4153 = some (.tam 0x41) ∧
  decodeTableWord 16 0xFBD0 = some (.bne 0xFB) ∧
  decodeTableWord 16 0x4037 = some (.rmb3 0x40) ∧
  decodeTableWord 24 0xFD10FF = some (.bbs7 0x10 0xFD) ∧
  decodeTableWord 24 0x10008D = some (.staAbs 0x1000) ∧
  decodeTableWord 24 0x3000BD = some (.ldaAbsX 0x3000) ∧
  decodeTableWord 24 0x3000B9 = some (.ldaAbsY 0x3000) ∧
  decodeTableWord 24 0xC00020 = some (.jsr 0xC000) ∧
  decodeTableWord 24 0x30FF6C = some (.jmpAbsInd 0x30FF) ∧
  decodeTableWord 24 0x40007C = some (.jmpAbsXInd 0x4000) ∧
  decodeTableWord 24 0x100083 = some (.tstImmZp 0x00 0x10) ∧
  decodeTableWord 24 0x1001A3 = some (.tstImmZpX 0x01 0x10) ∧
  decodeTableWord 32 0x12345593 = some (.tstImmAbs 0x55 0x1234) ∧
  decodeTableWord 32 0x30FFFFB3 = some (.tstImmAbsX 0xFF 0x30FF) ∧
  decodeTableWord 56 0x00033100300073 = some (.tii 0x3000 0x3100 0x0003)

/-- The regular opcode patterns of the bit instructions (R177): bits 6 to 4 are the bit number, bit 7
tells BBS and SMB from BBR and RMB, bits 3 to 0 tell a branch from a memory bit. -/
def Obligations.BitOpcodePatterns : Prop :=
  ∀ (n : Fin 8) (i : Instr),
    (i.mnemonic = .bbr n → i.opcode.toNat = n.val * 0x10 + 0x0F) ∧
    (i.mnemonic = .bbs n → i.opcode.toNat = n.val * 0x10 + 0x8F) ∧
    (i.mnemonic = .rmb n → i.opcode.toNat = n.val * 0x10 + 0x07) ∧
    (i.mnemonic = .smb n → i.opcode.toNat = n.val * 0x10 + 0x87) ∧
    ((∃ z r, decode [BitVec.ofNat 8 (n.val * 0x10 + 0x0F), z, r] = .ok (i, [])) →
      i.mnemonic = .bbr n) ∧
    ((∃ z r, decode [BitVec.ofNat 8 (n.val * 0x10 + 0x8F), z, r] = .ok (i, [])) →
      i.mnemonic = .bbs n) ∧
    ((∃ z, decode [BitVec.ofNat 8 (n.val * 0x10 + 0x07), z] = .ok (i, [])) →
      i.mnemonic = .rmb n) ∧
    ((∃ z, decode [BitVec.ofNat 8 (n.val * 0x10 + 0x87), z] = .ok (i, [])) →
      i.mnemonic = .smb n)

/-! The step (10_state.md R54). -/

/-- With no RESET and no interrupt to take, a step runs the instruction whose bytes it fetches, in the
state after the fetch, and then takes the interrupt sample. -/
def Obligations.StepRunsDecodedInstruction : Prop :=
  ∀ (s t : State) (i : Instr), s.elapse.io.resetPending = false → s.intSel = .none →
    s.elapse.fetch = (encode i, t) →
    step s =
      match exec i t with
      | .next u => .next (State.sampleAfter i t u)
      | .fault f => .fault f
      | .refused r => .refused r

/-- With the environment at rest, a step runs the instruction that RAM or ROM holds at the program
counter, on the state as it is, and then takes the sample. -/
def Obligations.StepRunsInstructionInMemory : Prop :=
  ∀ (s : State) (i : Instr), s.atRest = true → s.intSel = .none → s.holds s.pc (encode i) = true →
    step s =
      match exec i s with
      | .next u => .next (State.sampleAfter i s u)
      | .fault f => .fault f
      | .refused r => .refused r

/-- A step at an undefined opcode byte is refused by name, whatever follows the byte (R176; log 13). -/
def Obligations.StepRefusesUndefinedOpcode : Prop :=
  ∀ (s : State) (op : Byte), s.atRest = true → s.intSel = .none → s.holds s.pc [op] = true →
    op ∈ [0x0B#8, 0x1B#8, 0x2B#8, 0x33#8, 0x3B#8, 0x4B#8, 0x5B#8, 0x5C#8, 0x63#8, 0x6B#8, 0x7B#8,
      0x8B#8, 0x9B#8, 0xAB#8, 0xBB#8, 0xCB#8, 0xDB#8, 0xDC#8, 0xE2#8, 0xEB#8, 0xFB#8, 0xFC#8] →
    step s = .refused (.illegalOpcode op)

/-- No instruction faults (60_exceptions.md R505): every instruction answers a next state in every
state, but for TMA with two or more mask bits, which is refused by name (43_data_transfer.md R320;
log 12). -/
def Obligations.EveryInstructionAnswers : Prop :=
  ∀ (i : Instr) (s : State),
    (i.wf = true → ∃ t, exec i s = .next t) ∧
    (i.wf = false → ∃ mask, i = .tma mask ∧ exec i s = .refused (.tmaMultipleBits mask))

/-! Reset (70_reset_and_hazards.md). -/

/-- The state after reset has the values of 10_state.md R55, the program counter being the vector at
physical $001FFE and $001FFF. -/
def Obligations.ResetStateValues : Prop :=
  State.reset.p.i = true ∧ State.reset.p.d = false ∧ State.reset.p.t = false ∧
  State.reset.mpr.m7 = 0 ∧
  State.reset.io.idr = { tiqd := false, irq1d := false, irq2d := false } ∧
  State.reset.io.tiq = false ∧ State.reset.io.nmiPending = false ∧
  State.reset.io.timer.start = false ∧ State.reset.io.portO = 0xFF ∧
  State.reset.speed = .low ∧ State.reset.intSel = .none ∧
  State.reset.pc = joinBytes (State.reset.peek 0x001FFF#21) (State.reset.peek 0x001FFE#21)

/-- A RESET that waits is taken at the next boundary, before any interrupt or instruction: the items
R600 lists have their values, memory is not changed (R601), the program counter is the vector at
physical $001FFE and $001FFF. -/
def Obligations.ResetTaken : Prop :=
  ∀ s : State, s.elapse.io.resetPending = true → s.elapse.io.schedule = [] →
    ∃ t, step s = .next t ∧
      t.p.i = true ∧ t.p.d = false ∧ t.p.t = false ∧ t.mpr.m7 = 0 ∧ t.io.timer.start = false ∧
      t.io.idr = { tiqd := false, irq1d := false, irq2d := false } ∧ t.io.tiq = false ∧
      t.speed = .low ∧ t.io.portO = 0xFF ∧ t.io.nmiPending = false ∧ t.intSel = .none ∧
      t.io.resetPending = false ∧ SameMemory s t ∧ t.platform = s.platform ∧
      (s.isMemory 0x001FFE#21 = true → loByte t.pc = s.peek 0x001FFE#21) ∧
      (s.isMemory 0x001FFF#21 = true → hiByte t.pc = s.peek 0x001FFF#21)

/-! Invariants and whole-machine rules. -/

/-- The state after reset has the invariant. -/
def Obligations.ResetHasInvariant : Prop := State.reset.Inv

/-- Every step, of whatever kind, from every state that has the invariant, keeps it. -/
def Obligations.StepKeepsInvariant : Prop :=
  ∀ s t : State, s.Inv → step s = .next t → t.Inv

/-- Canonical memories that read the same everywhere are the same list. The list, its canonical form and
the byte an unlisted address reads as are the model's own representation of RAM and ROM (log 1). -/
def Obligations.CanonicalMemoryDetermined : Prop :=
  ∀ m n : Memory, m.wf = true → n.wf = true → (∀ k : Nat, m.read k = n.read k) → m = n

/-- No step writes a byte where RAM does not answer, so ROM never changes (20_memory.md R103), and no
step changes the platform: that the map of RAM, ROM and devices is fixed for a run is the model's choice
(log 6). -/
def Obligations.StepWritesRamOnly : Prop :=
  ∀ s t : State, step s = .next t →
    t.platform = s.platform ∧ ∀ q : PhysAddr, s.isRam q = false → t.peek q = s.peek q

/-- Who writes the special registers: the mapping registers, TAM alone (10_state.md R46); the TAM latch,
TAM alone (R47, the spec's decision D11, log 27); the speed mode, CSH and CSL (R53); SH, DH, LH, the
block transfers (R45); S, TXS and the stack instructions, a block transfer leaving it as it was (R35);
the selected interrupt, the entry of BRK (R54, 60_exceptions.md R520). -/
def Obligations.SpecialRegisterWriters : Prop :=
  ∀ (i : Instr) (s t : State), exec i s = .next t →
    (i.mnemonic ≠ .tam → t.mpr = s.mpr ∧ t.mprLatch = s.mprLatch) ∧
    (i.mnemonic ∉ [Mnemonic.csh, .csl] → t.speed = s.speed) ∧
    (i.mnemonic ∉ [Mnemonic.tii, .tdd, .tin, .tia, .tai] → t.sh = s.sh ∧ t.dh = s.dh ∧ t.lh = s.lh) ∧
    (i.mnemonic ∉ [Mnemonic.txs, .pha, .php, .phx, .phy, .pla, .plp, .plx, .ply, .bsr, .jsr, .rts,
      .rti, .brk] → t.sp = s.sp) ∧
    (i.mnemonic ≠ .brk → t.intSel = s.intSel)

/-- Who writes the flags (10_state.md R37 to R44): a flag is unchanged by every instruction not in its
list; ADC and SBC leave V unchanged in decimal mode; T is 0 after every instruction but SET, which sets
it, and PLP and RTI. -/
def Obligations.FlagWriters : Prop :=
  ∀ (i : Instr) (s t : State), exec i s = .next t →
    (i.mnemonic ∉ [Mnemonic.adc, .sbc, .cmp, .cpx, .cpy, .asl, .lsr, .rol, .ror, .sec, .clc, .plp,
      .rti] → t.p.c = s.p.c) ∧
    (i.mnemonic ∉ [Mnemonic.adc, .and, .asl, .bit, .cmp, .cpx, .cpy, .dec, .dex, .dey, .eor, .inc,
      .inx, .iny, .lda, .ldx, .ldy, .lsr, .ora, .pla, .plx, .ply, .rol, .ror, .sbc, .tax, .tay, .trb,
      .tsb, .tst, .tsx, .txa, .tya, .plp, .rti] → t.p.z = s.p.z ∧ t.p.n = s.p.n) ∧
    (i.mnemonic ∉ [Mnemonic.cli, .sei, .plp, .rti, .brk] → t.p.i = s.p.i) ∧
    (i.mnemonic ∉ [Mnemonic.cld, .sed, .plp, .rti, .brk] → t.p.d = s.p.d) ∧
    (i.mnemonic ∉ [Mnemonic.adc, .sbc, .clv, .bit, .trb, .tsb, .tst, .plp, .rti] →
      t.p.v = s.p.v) ∧
    (i.mnemonic = .adc ∨ i.mnemonic = .sbc → s.p.d = true → t.p.v = s.p.v) ∧
    (i.mnemonic ∉ [Mnemonic.setT, .plp, .rti] → t.p.t = false) ∧
    (i.mnemonic = .setT → t.p.t = true)

/-! Interrupts (60_exceptions.md). -/

/-- The interrupt a sample selects (R510): NMI when latched; then TIMER, IRQ1, IRQ2 where requested,
enabled and not masked; I masks all but NMI. The sample after CLI and SEI uses I as it was before them
(R511), every other the I as it is. -/
def Obligations.InterruptSample : Prop :=
  (∀ (io : Io) (m : Bool),
    (io.nmiPending = true → io.select m = .nmi) ∧
    (io.nmiPending = false → m = true → io.select m = .none) ∧
    (io.nmiPending = false → m = false → io.tiq = true → io.idr.tiqd = false →
      io.select m = .timer) ∧
    (io.nmiPending = false → m = false → (io.tiq = false ∨ io.idr.tiqd = true) →
      io.pins.irq1 = .low → io.idr.irq1d = false → io.select m = .irq1) ∧
    (io.nmiPending = false → m = false → (io.tiq = false ∨ io.idr.tiqd = true) →
      (io.pins.irq1 = .high ∨ io.idr.irq1d = true) →
      io.pins.irq2 = .low → io.idr.irq2d = false → io.select m = .irq2) ∧
    (io.nmiPending = false → (io.tiq = false ∨ io.idr.tiqd = true) →
      (io.pins.irq1 = .high ∨ io.idr.irq1d = true) →
      (io.pins.irq2 = .high ∨ io.idr.irq2d = true) → io.select m = .none)) ∧
  ∀ (i : Instr) (s t : State),
    (i.mnemonic ∈ [Mnemonic.cli, .sei] →
      State.sampleAfter i s t = { t.elapse with intSel := t.elapse.io.select s.p.i }) ∧
    (i.mnemonic ∉ [Mnemonic.cli, .sei] →
      State.sampleAfter i s t = { t.elapse with intSel := t.elapse.io.select t.p.i })

/-- A selected hardware interrupt is entered by the next step (R510, R520): PCH, PCL and P with B = 0
and T, D, I as they are now are pushed, T and D are reset, I is set, the program counter is read at the
interrupt's vector; an NMI's latch is cleared first (R512; log 28). A sample follows, masked by I. -/
def Obligations.InterruptEntered : Prop :=
  ∀ (s : State) (sel : IntSel), sel ≠ .none → s.intSel = sel → s.elapse.io.resetPending = false →
    let u := if sel = .nmi then s.elapse.clearNmi else s.elapse
    let e := u.entered (vectorOf sel) false s.pc
    step s = .next { e.elapse with intSel := e.elapse.io.select true } ∧
      PushedBytes s e [hiByte s.pc, loByte s.pc, s.p.toByte false]

/-- RTI after an entry (R521): in any state that the handler has left with S, the mapping and the three
pushed bytes as the entry made them, RTI gives back the program counter, S and all seven flags of the
interrupted program, T (the spec's decision D18, log 30) and D included. -/
def Obligations.EntryThenReturn : Prop :=
  ∀ (s u : State) (vector ret : Word) (b : Bool), s.mem.wf = true →
    (∀ k : Nat, k < 3 → s.isRam (s.stackSlot (BitVec.ofNat 8 k)) = true) →
    let e := s.entered vector b ret
    u.sp = e.sp → u.mpr = s.mpr → u.platform = s.platform →
    (∀ k : Nat, k < 3 →
      u.peek (s.stackSlot (BitVec.ofNat 8 k)) = e.peek (s.stackSlot (BitVec.ofNat 8 k))) →
    ∃ t, exec .rti u = .next t ∧ t.pc = ret ∧ t.sp = s.sp ∧ t.p = s.p ∧
      t.a = u.a ∧ t.x = u.x ∧ t.y = u.y ∧ SameMemory u t

/-- The delay of CLI (R282, R511): with IRQ1 asserted and enabled and I = 1, `CLI; NOP` runs both
instructions, and then the IRQ1 entry is taken, with the address after the NOP pushed. -/
def Obligations.CliDelaysInterrupt : Prop :=
  ∀ s : State, s.atRest = true → s.intSel = .none → s.p.i = true → s.io.nmiPending = false →
    s.io.tiq = false → s.io.pins.irq1 = .low → s.io.idr.irq1d = false →
    s.holds s.pc (encode .cli ++ encode .nop) = true →
    ∃ s1 s2 s3, step s = .next s1 ∧ s1.intSel = .none ∧ step s1 = .next s2 ∧
      s2.pc = s.pc + 2 ∧ s2.intSel = .irq1 ∧ step s2 = .next s3 ∧ s3.p.i = true ∧ s3.sp = s.sp - 3 ∧
      PushedBytes s s3 [hiByte (s.pc + 2), loByte (s.pc + 2),
        { s.p with t := false, i := false }.toByte false]

/-- The NMI latch (R512; log 28): a change of the pin from H to L sets it; holding the pin at L, or
letting it go to H, does not; nothing the pin does clears it. No other event of the environment sets or
clears it, nor does the timer's clock that runs on after the schedule has ended (log 18). -/
def Obligations.NmiEdgeLatch : Prop :=
  ∀ io : Io,
    (io.pins.nmi = .high → (io.apply (.nmiPin .low)).nmiPending = true) ∧
    (io.pins.nmi = .low → (io.apply (.nmiPin .low)).nmiPending = io.nmiPending) ∧
    (io.apply (.nmiPin .high)).nmiPending = io.nmiPending ∧
    (∀ l, (io.apply (.nmiPin l)).pins = { io.pins with nmi := l }) ∧
    (∀ ev, (∀ l, ev ≠ .nmiPin l) →
      (io.apply ev).nmiPending = io.nmiPending ∧ (io.apply ev).pins.nmi = io.pins.nmi) ∧
    (io.schedule = [] →
      io.elapse.nmiPending = io.nmiPending ∧ io.elapse.pins.nmi = io.pins.nmi)

/-! Timer, interrupt registers and port (60_exceptions.md). -/

/-- The timer (R530, R531): a tick counts down and nothing else while the counter is not 0; the tick at
0 sets TIQ and reloads; `reload + 1` ticks of 1024 periods each are one whole turn; a stopped timer does
not tick; periods that complete no tick are counted by the prescaler. -/
def Obligations.TimerCountsDown : Prop :=
  ∀ io : Io,
    (∀ k : Nat, k ≤ io.timer.counter.toNat →
      Io.ticks k io =
        { io with timer := { io.timer with counter := io.timer.counter - BitVec.ofNat 7 k } }) ∧
    Io.ticks (io.timer.counter.toNat + 1) io =
      { io with tiq := true, timer := { io.timer with counter := io.timer.reload } } ∧
    (∀ n : Nat, io.timer.start = false → io.clock n = io) ∧
    (∀ n : Nat, io.timer.start = true → io.timer.prescaler.toNat + n < 1024 →
      io.clock n =
        { io with timer :=
          { io.timer with prescaler := io.timer.prescaler + BitVec.ofNat 10 n } }) ∧
    (io.timer.start = true → io.timer.counter = io.timer.reload →
      io.clock ((io.timer.reload.toNat + 1) * 1024) = { io with tiq := true })

/-- A timer that runs keeps ticking (R12, R531; the spec's decision D21, log 18, log 19): however many
points at which the environment acts have passed, TIQ comes to be set after some more of them. -/
def Obligations.TimerKeepsTicking : Prop :=
  ∀ io : Io, io.timer.start = true → ∃ n : Nat, (Io.elapse^[n] { io with tiq := false }).tiq = true

/-- The timer's registers at every address of physical $1FEC00 to $1FEFFF (R532 to R534): a write at an
even address loads the reload register and nothing else; at an odd one it starts or stops, a start from
rest loading the counter and beginning the prescaler from 0, a stop resetting the prescaler, a second
start changing nothing (log 34); a read at an even address shows the counter in
bits 6 to 0, unless the environment marked it. -/
def Obligations.TimerRegisters : Prop :=
  ∀ (s : State) (pa : PhysAddr) (v : Byte), 0x1FEC00 ≤ pa.toNat → pa.toNat < 0x1FF000 →
    let io := s.io.elapse
    (pa.toNat % 2 = 0 →
      s.physWrite pa v =
        { s with io := { io with timer := { io.timer with reload := v.setWidth 7 } } }) ∧
    (pa.toNat % 2 = 1 → v.getLsbD 0 = false →
      s.physWrite pa v =
        { s with io := { io with timer := { io.timer with start := false, prescaler := 0 } } }) ∧
    (pa.toNat % 2 = 1 → v.getLsbD 0 = true → io.timer.start = true → s.physWrite pa v =
      { s with io := io }) ∧
    (pa.toNat % 2 = 1 → v.getLsbD 0 = true → io.timer.start = false →
      s.physWrite pa v =
        { s with io := { io with timer :=
          { io.timer with start := true, counter := io.timer.reload, prescaler := 0 } } }) ∧
    (pa.toNat % 2 = 0 → io.glitch = false →
      (s.physRead pa).1.setWidth 7 = io.timer.counter)

/-- The interrupt registers and the port at every address of their ranges (R501, R502, R540): IRR shows
TIQ and the inverted levels of the two pins, and a write of any byte clears TIQ; IDR is read and written
in bits 2 to 0; the port reads the pins K and writes the latch O. -/
def Obligations.InterruptRegistersAndPort : Prop :=
  ∀ (s : State) (pa : PhysAddr) (v : Byte),
    let io := s.io.elapse
    let r := (s.physRead pa).1
    (0x1FF400 ≤ pa.toNat → pa.toNat < 0x1FF800 → pa.toNat % 4 = 3 →
      r.getLsbD 2 = io.tiq ∧ r.getLsbD 1 = (io.pins.irq1 == .low) ∧
      r.getLsbD 0 = (io.pins.irq2 == .low) ∧
      s.physWrite pa v = { s with io := { io with tiq := false } }) ∧
    (0x1FF400 ≤ pa.toNat → pa.toNat < 0x1FF800 → pa.toNat % 4 = 2 →
      r.getLsbD 2 = io.idr.tiqd ∧ r.getLsbD 1 = io.idr.irq1d ∧ r.getLsbD 0 = io.idr.irq2d ∧
      s.physWrite pa v =
        { s with io := { io with idr :=
          { tiqd := v.getLsbD 2, irq1d := v.getLsbD 1, irq2d := v.getLsbD 0 } } }) ∧
    (0x1FF000 ≤ pa.toNat → pa.toNat < 0x1FF400 →
      r = io.pins.k ∧ s.physWrite pa v = { s with io := { io with portO := v } })

/-- Side effects of accesses to block $FF (20_memory.md R111, 92_eei_decisions.md D16): a read of an
on-chip register changes nothing but the count of free values drawn; an access to the HuC6270, the
HuC6260, the PSG or an address no source decodes, reads of the timer at odd addresses among them (R534),
changes nothing but the record of such accesses (logs 7, 8, 9). -/
def Obligations.BlockFFSideEffects : Prop :=
  ∀ (s : State) (pa : PhysAddr) (v : Byte), 0x1FE000 ≤ pa.toNat →
    let io := s.io.elapse
    (0x1FEC00 ≤ pa.toNat → pa.toNat < 0x1FF800 → (pa.toNat < 0x1FF000 → pa.toNat % 2 = 0) →
      (0x1FF400 ≤ pa.toNat → 2 ≤ pa.toNat % 4) →
      ∃ n, (s.physRead pa).2 = { s with io := { io with freeCount := n } }) ∧
    ((pa.toNat < 0x1FEC00 ∨ 0x1FF800 ≤ pa.toNat ∨ (pa.toNat < 0x1FF000 ∧ pa.toNat % 2 = 1) ∨
        (0x1FF400 ≤ pa.toNat ∧ pa.toNat % 4 < 2)) →
      (s.physRead pa).2 = { s with io := { io with deviceLog := .read pa :: io.deviceLog } }) ∧
    ((pa.toNat < 0x1FEC00 ∨ 0x1FF800 ≤ pa.toNat ∨ (0x1FF400 ≤ pa.toNat ∧ pa.toNat % 4 < 2)) →
      s.physWrite pa v = { s with io := { io with deviceLog := .write pa v :: io.deviceLog } })

/-! Addresses and memory (20_memory.md, 30_encoding.md). -/

/-- Translation (R101): the three high bits of a logical address select the mapping register whose byte
becomes bits 20 to 13; the zero page and the stack lie at $2000 and $2100, mapped by MPR1 (R106, R107). -/
def Obligations.Translation : Prop :=
  ∀ (s : State) (la : Word) (b : Byte),
    (la.toNat / 0x2000 = 0 → (s.translate la).toNat = s.mpr.m0.toNat * 0x2000 + la.toNat % 0x2000) ∧
    (la.toNat / 0x2000 = 1 → (s.translate la).toNat = s.mpr.m1.toNat * 0x2000 + la.toNat % 0x2000) ∧
    (la.toNat / 0x2000 = 2 → (s.translate la).toNat = s.mpr.m2.toNat * 0x2000 + la.toNat % 0x2000) ∧
    (la.toNat / 0x2000 = 3 → (s.translate la).toNat = s.mpr.m3.toNat * 0x2000 + la.toNat % 0x2000) ∧
    (la.toNat / 0x2000 = 4 → (s.translate la).toNat = s.mpr.m4.toNat * 0x2000 + la.toNat % 0x2000) ∧
    (la.toNat / 0x2000 = 5 → (s.translate la).toNat = s.mpr.m5.toNat * 0x2000 + la.toNat % 0x2000) ∧
    (la.toNat / 0x2000 = 6 → (s.translate la).toNat = s.mpr.m6.toNat * 0x2000 + la.toNat % 0x2000) ∧
    (la.toNat / 0x2000 = 7 → (s.translate la).toNat = s.mpr.m7.toNat * 0x2000 + la.toNat % 0x2000) ∧
    (zpAddr b).toNat = 0x2000 + b.toNat ∧ (stackAddr b).toNat = 0x2100 + b.toNat ∧
    (s.translate (zpAddr b)).toNat = s.mpr.m1.toNat * 0x2000 + b.toNat ∧
    (s.translate (stackAddr b)).toNat = s.mpr.m1.toNat * 0x2000 + 0x100 + b.toNat

/-- The effective address of every mode (R157 to R159, R161 to R166): zero-page sums wrap modulo 256,
the others modulo 65536; a pointer in RAM or ROM is its low byte at the zero-page offset and its high
byte at the next offset modulo 256 (log 14, log 15). -/
def Obligations.EffectiveAddresses : Prop :=
  ∀ (s : State) (z : Byte) (w : Word),
    let pointer : Byte → Nat := fun p =>
      (s.peek (s.translate (zpAddr p))).toNat + 256 * (s.peek (s.translate (zpAddr (p + 1)))).toNat
    let readable : Byte → Prop := fun p =>
      s.isMemory (s.translate (zpAddr p)) = true ∧ s.isMemory (s.translate (zpAddr (p + 1))) = true
    (s.effAddr (.zp z)).1.toNat = 0x2000 + z.toNat ∧
    (s.effAddr (.zpX z)).1.toNat = 0x2000 + (z.toNat + s.x.toNat) % 256 ∧
    (s.effAddr (.zpY z)).1.toNat = 0x2000 + (z.toNat + s.y.toNat) % 256 ∧
    (s.effAddr (.abs w)).1 = w ∧
    (s.effAddr (.absX w)).1.toNat = (w.toNat + s.x.toNat) % 65536 ∧
    (s.effAddr (.absY w)).1.toNat = (w.toNat + s.y.toNat) % 65536 ∧
    (readable z → (s.effAddr (.ind z)).1.toNat = pointer z) ∧
    (readable (z + s.x) → (s.effAddr (.indX z)).1.toNat = pointer (z + s.x)) ∧
    (readable z → (s.effAddr (.indY z)).1.toNat = (pointer z + s.y.toNat) % 65536)

/-- Memory (20_memory.md R103, R113): a read of RAM, through any logical alias, answers the last byte
written; a write leaves every other byte of RAM and ROM alone; a write to ROM has no effect. -/
def Obligations.ReadAfterWrite : Prop :=
  ∀ (s : State) (la lb : Word) (v : Byte), s.mem.wf = true →
    (s.isRam (s.translate la) = true → s.translate lb = s.translate la →
      ((s.memWrite la v).memRead lb).1 = v) ∧
    (s.isMemory (s.translate lb) = true → s.translate lb ≠ s.translate la →
      ((s.memWrite la v).memRead lb).1 = (s.memRead lb).1) ∧
    (s.isMemory (s.translate la) = true → s.isRam (s.translate la) = false →
      s.memWrite la v = s.elapse)

/-! Arithmetic and flags (40_alu_arith_logic.md, 41_alu_shift_incdec.md, 47_test.md). -/

/-- `setNZ` (R200). -/
def Obligations.SetNZ : Prop :=
  ∀ (p : Flags) (v : Byte), p.setNZ v = { p with n := decide (128 ≤ v.toNat), z := decide (v.toNat = 0) }

/-- Binary addition (R202), in whole numbers; V is the closed form and says that the signed sum is out
of range. -/
def Obligations.BinaryAddition : Prop :=
  ∀ (l m : Byte) (p : Flags),
    let t := l.toNat + m.toNat + p.c.toNat
    let r := (addBin l m p).1
    let signed : Int := l.toInt + m.toInt + p.c.toNat
    r.toNat = t % 256 ∧
    (addBin l m p).2 =
      { p with
        c := decide (t > 255), v := ((l ^^^ r) &&& (m ^^^ r)).getLsbD 7
        n := r.getLsbD 7, z := decide (r.toNat = 0) } ∧
    (((l ^^^ r) &&& (m ^^^ r)).getLsbD 7 = true ↔ signed < -128 ∨ 127 < signed)

/-- Binary subtraction (R204), in whole numbers; V, the spec's decision D24, says that the signed
difference is out of range (log 31). -/
def Obligations.BinarySubtraction : Prop :=
  ∀ (l m : Byte) (p : Flags),
    let t : Int := l.toNat - m.toNat - (1 - p.c.toNat)
    let r := (subBin l m p).1
    let signed : Int := l.toInt - m.toInt - (1 - p.c.toNat)
    (r.toNat : Int) = t % 256 ∧
    (subBin l m p).2 =
      { p with
        c := decide (t ≥ 0), v := decide (signed < -128 ∨ 127 < signed)
        n := r.getLsbD 7, z := decide (r.toNat = 0) }

/-- Decimal addition and subtraction of two-digit numbers (R203, R205): the digits of the result, the
carry, N and Z of the result (the spec's decision D9, log 26), V unchanged. With a nibble above 9 the
result and C, N, Z are free values (log 10), and V, T, D and I are unchanged. -/
def Obligations.DecimalArithmetic : Prop :=
  ∀ (l m : Byte) (p : Flags),
    let digits : Byte → Prop := fun b => b.toNat / 16 ≤ 9 ∧ b.toNat % 16 ≤ 9
    let value : Byte → Nat := fun b => 10 * (b.toNat / 16) + b.toNat % 16
    let sum := value l + value m + p.c.toNat
    let difference : Int := value l - value m - (1 - p.c.toNat)
    let a := addDec l m p
    let d := subDec l m p
    (digits l → digits m →
      digits a.1 ∧ value a.1 = sum % 100 ∧
      a.2 = { p with
        c := decide (sum > 99), n := a.1.getLsbD 7, z := decide (a.1.toNat = 0) } ∧
      digits d.1 ∧ (value d.1 : Int) = difference % 100 ∧
      d.2 = { p with
        c := decide (difference ≥ 0), n := d.1.getLsbD 7, z := decide (d.1.toNat = 0) }) ∧
    a.2.v = p.v ∧ a.2.t = p.t ∧ a.2.d = p.d ∧ a.2.i = p.i ∧
    d.2.v = p.v ∧ d.2.t = p.t ∧ d.2.d = p.d ∧ d.2.i = p.i

/-- The shifts, rotates and counts (R241 to R246), in whole numbers, with their flags. -/
def Obligations.ShiftsAndCounts : Prop :=
  ∀ (v : Byte) (p : Flags),
    let nz : Byte → Flags → Flags := fun r q =>
      { q with n := decide (128 ≤ r.toNat), z := decide (r.toNat = 0) }
    ((aslOp v p).1.toNat = 2 * v.toNat % 256 ∧
      (aslOp v p).2 = nz (aslOp v p).1 { p with c := decide (128 ≤ v.toNat) }) ∧
    ((lsrOp v p).1.toNat = v.toNat / 2 ∧
      (lsrOp v p).2 = nz (lsrOp v p).1 { p with c := decide (v.toNat % 2 = 1) }) ∧
    ((rolOp v p).1.toNat = (2 * v.toNat + p.c.toNat) % 256 ∧
      (rolOp v p).2 = nz (rolOp v p).1 { p with c := decide (128 ≤ v.toNat) }) ∧
    ((rorOp v p).1.toNat = v.toNat / 2 + 128 * p.c.toNat ∧
      (rorOp v p).2 = nz (rorOp v p).1 { p with c := decide (v.toNat % 2 = 1) }) ∧
    ((incOp v p).1.toNat = (v.toNat + 1) % 256 ∧ (incOp v p).2 = nz (incOp v p).1 p) ∧
    ((decOp v p).1.toNat = (v.toNat + 255) % 256 ∧ (decOp v p).2 = nz (decOp v p).1 p)

/-- The bit operations, bit by bit (R431, R432, R452, R453): TRB clears the bits set in A, TSB sets them,
both with N and V from the byte read and Z from the result; RMBi and SMBi change bit i alone and no
flag. -/
def Obligations.BitOperations : Prop :=
  ∀ (a m : Byte) (p : Flags) (i : Fin 8) (k : Nat), k < 8 →
    ((trbOp a m p).1.getLsbD k = (m.getLsbD k && !a.getLsbD k)) ∧
    ((tsbOp a m p).1.getLsbD k = (m.getLsbD k || a.getLsbD k)) ∧
    (trbOp a m p).2 = { p with
      n := m.getLsbD 7, v := m.getLsbD 6, z := decide ((trbOp a m p).1.toNat = 0) } ∧
    (tsbOp a m p).2 = { p with
      n := m.getLsbD 7, v := m.getLsbD 6, z := decide ((tsbOp a m p).1.toNat = 0) } ∧
    ((rmbOp i m p).1.getLsbD k = if k = i.val then false else m.getLsbD k) ∧
    ((smbOp i m p).1.getLsbD k = if k = i.val then true else m.getLsbD k) ∧
    (rmbOp i m p).2 = p ∧ (smbOp i m p).2 = p

/-! Results and frames of the instructions. -/

/-- LDA (nine forms), LDX (five), LDY (five) load the operand and set N and Z from it (R300 to R302). -/
def Obligations.LoadResult : Prop :=
  ∀ (i : Instr) (src : Source) (s : State), i.form = src.form →
    let m := s.operand src
    let p := { s.p with n := m.1.getLsbD 7, z := m.1 == 0, t := false }
    let t := { s with p := p, pc := s.pc + BitVec.ofNat 16 i.length, io := m.2.io }
    SameMemory s t ∧
    (i.mnemonic = .lda → exec i s = .next { t with a := m.1 }) ∧
    (i.mnemonic = .ldx → exec i s = .next { t with x := m.1 }) ∧
    (i.mnemonic = .ldy → exec i s = .next { t with y := m.1 })

/-- STA (eight forms), STX (three), STY (three) and STZ (four) store one byte at the effective address
(R303 to R306). -/
def Obligations.StoreResult : Prop :=
  ∀ (i : Instr) (ea : Ea) (v : Byte) (s : State), i.form = .mem ea →
    ((i.mnemonic = .sta ∧ v = s.a) ∨ (i.mnemonic = .stx ∧ v = s.x) ∨
      (i.mnemonic = .sty ∧ v = s.y) ∨ (i.mnemonic = .stz ∧ v = 0)) →
    let e := s.effAddr ea
    let w := e.2.memWrite e.1 v
    let t := { s with
      p := { s.p with t := false }, pc := s.pc + BitVec.ofNat 16 i.length, mem := w.mem, io := w.io }
    exec i s = .next t ∧ StoredByte s t (s.translate e.1) v

/-- The transfers, swaps and clears (R251 to R253, R307 to R315), NOP (R451), CSH and CSL (R454, R455):
their opcodes and cycles, the registers each writes, N and Z for the transfers but TXS, nothing else
but T. -/
def Obligations.TransferResult : Prop :=
  ∀ s : State,
    let f := { s with p := { s.p with t := false }, pc := s.pc + 1 }
    let nz : Byte → Flags := fun v => { s.p with n := v.getLsbD 7, z := v == 0, t := false }
    (encode .tax = [0xAA#8] ∧ encode .tay = [0xA8#8] ∧ encode .tsx = [0xBA#8] ∧
      encode .txa = [0x8A#8] ∧ encode .tya = [0x98#8] ∧ encode .txs = [0x9A#8] ∧
      encode .sax = [0x22#8] ∧ encode .say = [0x42#8] ∧ encode .sxy = [0x02#8] ∧
      encode .cla = [0x62#8] ∧ encode .clx = [0x82#8] ∧ encode .cly = [0xC2#8] ∧
      encode .nop = [0xEA#8] ∧ encode .csh = [0xD4#8] ∧ encode .csl = [0x54#8]) ∧
    (∀ i ∈ [Instr.tax, .tay, .tsx, .txa, .tya, .txs, .cla, .clx, .cly, .nop],
      cycleCount i s = 2) ∧
    (∀ i ∈ [Instr.sax, .say, .sxy, .csh, .csl], cycleCount i s = 3) ∧
    exec .tax s = .next { f with x := s.a, p := nz s.a } ∧
    exec .tay s = .next { f with y := s.a, p := nz s.a } ∧
    exec .tsx s = .next { f with x := s.sp, p := nz s.sp } ∧
    exec .txa s = .next { f with a := s.x, p := nz s.x } ∧
    exec .tya s = .next { f with a := s.y, p := nz s.y } ∧
    exec .txs s = .next { f with sp := s.x } ∧
    exec .sax s = .next { f with a := s.x, x := s.a } ∧
    exec .say s = .next { f with a := s.y, y := s.a } ∧
    exec .sxy s = .next { f with x := s.y, y := s.x } ∧
    exec .cla s = .next { f with a := 0 } ∧
    exec .clx s = .next { f with x := 0 } ∧
    exec .cly s = .next { f with y := 0 } ∧
    exec .nop s = .next f ∧
    exec .csh s = .next { f with speed := .high } ∧
    exec .csl s = .next { f with speed := .low } ∧
    SameMemory s f

/-- INX, INY, DEX, DEY (R247 to R250): one byte, two cycles, the register one up or down modulo 256,
N and Z from it, T reset, C and every other flag unchanged. -/
def Obligations.IndexCountResult : Prop :=
  ∀ s : State,
    let f := { s with pc := s.pc + 1 }
    let nz : Byte → Flags := fun v => { s.p with n := v.getLsbD 7, z := v == 0, t := false }
    (encode .inx = [0xE8#8] ∧ encode .iny = [0xC8#8] ∧ encode .dex = [0xCA#8] ∧
      encode .dey = [0x88#8]) ∧
    (cycleCount .inx s = 2 ∧ cycleCount .iny s = 2 ∧ cycleCount .dex s = 2 ∧
      cycleCount .dey s = 2) ∧
    exec .inx s = .next { f with x := s.x + 1, p := nz (s.x + 1) } ∧
    exec .iny s = .next { f with y := s.y + 1, p := nz (s.y + 1) } ∧
    exec .dex s = .next { f with x := s.x - 1, p := nz (s.x - 1) } ∧
    exec .dey s = .next { f with y := s.y - 1, p := nz (s.y - 1) } ∧
    SameMemory s f

/-- The flag instructions (R280 to R287): one byte, two cycles, one flag written beside T. -/
def Obligations.FlagInstructionResult : Prop :=
  ∀ s : State,
    let f := { s with pc := s.pc + 1 }
    let p := { s.p with t := false }
    (encode .clc = [0x18#8] ∧ encode .cld = [0xD8#8] ∧ encode .cli = [0x58#8] ∧
      encode .clv = [0xB8#8] ∧ encode .sec = [0x38#8] ∧ encode .sed = [0xF8#8] ∧
      encode .sei = [0x78#8] ∧ encode .setT = [0xF4#8]) ∧
    (cycleCount .clc s = 2 ∧ cycleCount .cld s = 2 ∧ cycleCount .cli s = 2 ∧ cycleCount .clv s = 2 ∧
      cycleCount .sec s = 2 ∧ cycleCount .sed s = 2 ∧ cycleCount .sei s = 2 ∧
      cycleCount .setT s = 2) ∧
    exec .clc s = .next { f with p := { p with c := false } } ∧
    exec .cld s = .next { f with p := { p with d := false } } ∧
    exec .cli s = .next { f with p := { p with i := false } } ∧
    exec .clv s = .next { f with p := { p with v := false } } ∧
    exec .sec s = .next { f with p := { p with c := true } } ∧
    exec .sed s = .next { f with p := { p with d := true } } ∧
    exec .sei s = .next { f with p := { p with i := true } } ∧
    exec .setT s = .next { f with p := { p with t := true } } ∧
    SameMemory s f

/-- ADC, AND, EOR and ORA with t_in = 0, and SBC whatever t_in, each in nine forms, work on A (R201, R210,
R211, R215 to R217): binary or decimal by D for ADC and SBC. -/
def Obligations.AluOnAccumulator : Prop :=
  ∀ (i : Instr) (src : Source) (op : Byte → Byte → Flags → Byte × Flags) (s : State),
    i.form = src.form →
    ((i.mnemonic = .adc ∧ s.p.t = false ∧
        op = fun l m p => if p.d then addDec l m p else addBin l m p) ∨
      (i.mnemonic = .and ∧ s.p.t = false ∧ op = fun l m p => (l &&& m, p.setNZ (l &&& m))) ∨
      (i.mnemonic = .eor ∧ s.p.t = false ∧ op = fun l m p => (l ^^^ m, p.setNZ (l ^^^ m))) ∨
      (i.mnemonic = .ora ∧ s.p.t = false ∧ op = fun l m p => (l ||| m, p.setNZ (l ||| m))) ∨
      (i.mnemonic = .sbc ∧ op = fun l m p => if p.d then subDec l m p else subBin l m p)) →
    let m := s.operand src
    let r := op s.a m.1 { s.p with t := false }
    let t := { s with
      a := r.1, p := r.2, pc := s.pc + BitVec.ofNat 16 i.length, io := m.2.io }
    exec i s = .next t ∧ SameMemory s t

/-- ADC, AND, EOR and ORA with t_in = 1, each in nine forms, work on the zero-page byte at $2000 + X (R201):
M is read first, then that byte, then the result is stored there; A is unchanged. -/
def Obligations.AluOnZeroPage : Prop :=
  ∀ (i : Instr) (src : Source) (op : Byte → Byte → Flags → Byte × Flags) (s : State),
    i.form = src.form → s.p.t = true →
    ((i.mnemonic = .adc ∧ op = fun l m p => if p.d then addDec l m p else addBin l m p) ∨
      (i.mnemonic = .and ∧ op = fun l m p => (l &&& m, p.setNZ (l &&& m))) ∨
      (i.mnemonic = .eor ∧ op = fun l m p => (l ^^^ m, p.setNZ (l ^^^ m))) ∨
      (i.mnemonic = .ora ∧ op = fun l m p => (l ||| m, p.setNZ (l ||| m)))) →
    let m := s.operand src
    let l := m.2.memRead (zpAddr s.x)
    let r := op l.1 m.1 { s.p with t := false }
    let w := l.2.memWrite (zpAddr s.x) r.1
    let t := { s with
      p := r.2, pc := s.pc + BitVec.ofNat 16 i.length, mem := w.mem, io := w.io }
    exec i s = .next t ∧ StoredByte s t (s.translate (zpAddr s.x)) r.1

/-- CMP (nine forms), CPX and CPY (three each) set C where the register is not below M as unsigned
numbers, N and Z from the difference modulo 256, and nothing else but T (R212 to R214). -/
def Obligations.CompareResult : Prop :=
  ∀ (i : Instr) (src : Source) (r : Byte) (s : State), i.form = src.form →
    ((i.mnemonic = .cmp ∧ r = s.a) ∨ (i.mnemonic = .cpx ∧ r = s.x) ∨
      (i.mnemonic = .cpy ∧ r = s.y)) →
    let m := s.operand src
    let t := { s with
      p := { s.p with
        c := decide (m.1.toNat ≤ r.toNat)
        n := decide (128 ≤ (r.toNat + 256 - m.1.toNat) % 256), z := decide (r = m.1), t := false }
      pc := s.pc + BitVec.ofNat 16 i.length, io := m.2.io }
    exec i s = .next t ∧ SameMemory s t

/-- ASL, LSR, ROL, ROR, INC and DEC (R240 to R246): on A in accumulator mode, on the byte at the effective
address in the four memory modes, with one read and then one write of it. -/
def Obligations.ReadModifyWriteResult : Prop :=
  ∀ (i : Instr) (op : Byte → Flags → Byte × Flags) (s : State),
    ((i.mnemonic = .asl ∧ op = aslOp) ∨ (i.mnemonic = .lsr ∧ op = lsrOp) ∨
      (i.mnemonic = .rol ∧ op = rolOp) ∨ (i.mnemonic = .ror ∧ op = rorOp) ∨
      (i.mnemonic = .inc ∧ op = incOp) ∨ (i.mnemonic = .dec ∧ op = decOp)) →
    (i.form = .acc →
      let r := op s.a { s.p with t := false }
      let t := { s with a := r.1, p := r.2, pc := s.pc + 1 }
      exec i s = .next t ∧ SameMemory s t) ∧
    ∀ ea, i.form = .mem ea →
      let e := s.effAddr ea
      let m := e.2.memRead e.1
      let r := op m.1 { s.p with t := false }
      let w := m.2.memWrite e.1 r.1
      let t := { s with
        p := r.2, pc := s.pc + BitVec.ofNat 16 i.length, mem := w.mem, io := w.io }
      exec i s = .next t ∧ StoredByte s t (s.translate e.1) r.1

/-- TRB and TSB (two forms each), RMB0 to RMB7 and SMB0 to SMB7 (R431, R432, R452, R453): one read and then
one write of the byte at the effective address. -/
def Obligations.BitModifyResult : Prop :=
  ∀ (i : Instr) (ea : Ea) (op : Byte → Flags → Byte × Flags) (s : State), i.form = .mem ea →
    ((i.mnemonic = .trb ∧ op = trbOp s.a) ∨ (i.mnemonic = .tsb ∧ op = tsbOp s.a) ∨
      (∃ k, i.mnemonic = .rmb k ∧ op = rmbOp k) ∨ (∃ k, i.mnemonic = .smb k ∧ op = smbOp k)) →
    let e := s.effAddr ea
    let m := e.2.memRead e.1
    let r := op m.1 { s.p with t := false }
    let w := m.2.memWrite e.1 r.1
    let t := { s with
      p := r.2, pc := s.pc + BitVec.ofNat 16 i.length, mem := w.mem, io := w.io }
    exec i s = .next t ∧ StoredByte s t (s.translate e.1) r.1

/-- BIT (five forms) and TST (four forms): N and V from bits 7 and 6 of the byte, Z from its AND with A or
with the immediate; nothing is stored (R430, R433). -/
def Obligations.TestResult : Prop :=
  ∀ (i : Instr) (s : State),
    let tested : Byte → Byte → State → State := fun other m u =>
      { s with
        p := { s.p with
          n := m.getLsbD 7, v := m.getLsbD 6, z := decide (other &&& m = 0), t := false }
        pc := s.pc + BitVec.ofNat 16 i.length, io := u.io }
    (∀ src, i.mnemonic = .bit → i.form = src.form →
      let m := s.operand src
      exec i s = .next (tested s.a m.1 m.2) ∧ SameMemory s (tested s.a m.1 m.2)) ∧
    ∀ nn ea, i.mnemonic = .tst → i.form = .immMem nn ea →
      let m := s.operand (.mem ea)
      exec i s = .next (tested nn m.1 m.2) ∧ SameMemory s (tested nn m.1 m.2)

/-- The nine relative branches (R370, R373 to R381): the target is PC + 2 + the signed offset where the
condition holds, PC + 2 elsewhere, modulo 65536; nothing else changes but T. -/
def Obligations.BranchResult : Prop :=
  ∀ (i : Instr) (rr : Byte) (taken : Bool) (s : State), i.form = .rel rr →
    ((i.mnemonic = .bcc ∧ taken = !s.p.c) ∨ (i.mnemonic = .bcs ∧ taken = s.p.c) ∨
      (i.mnemonic = .bne ∧ taken = !s.p.z) ∨ (i.mnemonic = .beq ∧ taken = s.p.z) ∨
      (i.mnemonic = .bpl ∧ taken = !s.p.n) ∨ (i.mnemonic = .bmi ∧ taken = s.p.n) ∨
      (i.mnemonic = .bvc ∧ taken = !s.p.v) ∨ (i.mnemonic = .bvs ∧ taken = s.p.v) ∨
      (i.mnemonic = .bra ∧ taken = true)) →
    let t := { s with
      p := { s.p with t := false }
      pc := BitVec.ofInt 16 (s.pc.toNat + 2 + if taken then rr.toInt else 0) }
    exec i s = .next t ∧ SameMemory s t

/-- BBR0 to BBR7 and BBS0 to BBS7 (R371, R372): the tested byte is read at $2000 + zz, the target is
PC + 3 + the signed offset where the bit is as asked, PC + 3 elsewhere. -/
def Obligations.BitBranchResult : Prop :=
  ∀ (i : Instr) (k : Fin 8) (want : Bool) (zz rr : Byte) (s : State), i.form = .zpRel zz rr →
    ((i.mnemonic = .bbr k ∧ want = false) ∨ (i.mnemonic = .bbs k ∧ want = true)) →
    let m := s.memRead (zpAddr zz)
    let t := { s with
      p := { s.p with t := false }, io := m.2.io
      pc := BitVec.ofInt 16 (s.pc.toNat + 3 + if m.1.getLsbD k.val = want then rr.toInt else 0) }
    exec i s = .next t ∧ SameMemory s t

/-- JMP in its three forms (R382): to the operand, or to the word at it, or to the word at it plus X, the
low byte read first and the high byte at the full 16-bit successor. -/
def Obligations.JumpResult : Prop :=
  ∀ (s : State) (hhll : Word),
    let direct := { s with p := { s.p with t := false }, pc := hhll }
    let through : Word → State := fun a =>
      let lo := s.memRead a
      let hi := lo.2.memRead (a + 1)
      { s with p := { s.p with t := false }, pc := joinBytes hi.1 lo.1, io := hi.2.io }
    exec (.jmpAbs hhll) s = .next direct ∧ SameMemory s direct ∧
    exec (.jmpAbsInd hhll) s = .next (through hhll) ∧ SameMemory s (through hhll) ∧
    exec (.jmpAbsXInd hhll) s = .next (through (hhll + s.x.setWidth 16)) ∧
    SameMemory s (through (hhll + s.x.setWidth 16))

/-- BSR and JSR push the address of their last byte, high byte first, and go to the target (R400, R401). -/
def Obligations.CallResult : Prop :=
  ∀ (s : State) (rr : Byte) (hhll : Word),
    let called : Word → Word → State := fun ret target =>
      let w := (s.memWrite (stackAddr s.sp) (hiByte ret)).memWrite (stackAddr (s.sp - 1)) (loByte ret)
      { s with
        p := { s.p with t := false }, sp := s.sp - 2, pc := target, mem := w.mem, io := w.io }
    let bsr := called (s.pc + 1) (BitVec.ofInt 16 (s.pc.toNat + 2 + rr.toInt))
    let jsr := called (s.pc + 2) hhll
    exec (.bsr rr) s = .next bsr ∧
    PushedBytes s bsr [hiByte (s.pc + 1), loByte (s.pc + 1)] ∧
    exec (.jsr hhll) s = .next jsr ∧
    PushedBytes s jsr [hiByte (s.pc + 2), loByte (s.pc + 2)]

/-- PHA, PHX, PHY and PHP (R402 to R405): one byte stored at $2100 + S, then S is one less; PHP's byte has
bit 4 = 1 and bit 5 = 0. -/
def Obligations.PushResult : Prop :=
  ∀ (i : Instr) (v : Byte) (s : State),
    ((i = .pha ∧ v = s.a) ∨ (i = .phx ∧ v = s.x) ∨ (i = .phy ∧ v = s.y) ∨
      (i = .php ∧ v.getLsbD 7 = s.p.n ∧ v.getLsbD 6 = s.p.v ∧ v.getLsbD 5 = false ∧
        v.getLsbD 4 = true ∧ v.getLsbD 3 = s.p.d ∧ v.getLsbD 2 = s.p.i ∧ v.getLsbD 1 = s.p.z ∧
        v.getLsbD 0 = s.p.c)) →
    let w := s.memWrite (stackAddr s.sp) v
    let t := { s with
      p := { s.p with t := false }, sp := s.sp - 1, pc := s.pc + 1, mem := w.mem, io := w.io }
    exec i s = .next t ∧ StoredByte s t (s.translate (stackAddr s.sp)) v

/-- PLA, PLX, PLY and PLP (R406 to R409): S is one more, then one byte is read at $2100 + S; PLP restores
the seven stored flags, T included, and drops bit 4 (log 30). -/
def Obligations.PullResult : Prop :=
  ∀ s : State,
    let m := s.memRead (stackAddr (s.sp + 1))
    let f := { s with sp := s.sp + 1, pc := s.pc + 1, io := m.2.io }
    let nz := { s.p with n := m.1.getLsbD 7, z := m.1 == 0, t := false }
    exec .pla s = .next { f with a := m.1, p := nz } ∧
    exec .plx s = .next { f with x := m.1, p := nz } ∧
    exec .ply s = .next { f with y := m.1, p := nz } ∧
    exec .plp s = .next { f with p :=
      { n := m.1.getLsbD 7, v := m.1.getLsbD 6, t := m.1.getLsbD 5, d := m.1.getLsbD 3
        i := m.1.getLsbD 2, z := m.1.getLsbD 1, c := m.1.getLsbD 0 } } ∧
    SameMemory s f

/-- RTS pulls PCL and PCH and adds 1 (R411); RTI pulls P, then PCL and PCH, used as they are (R410). -/
def Obligations.ReturnResult : Prop :=
  ∀ s : State,
    let m1 := s.memRead (stackAddr (s.sp + 1))
    let m2 := m1.2.memRead (stackAddr (s.sp + 2))
    let m3 := m2.2.memRead (stackAddr (s.sp + 3))
    let rts := { s with
      p := { s.p with t := false }, sp := s.sp + 2, pc := joinBytes m2.1 m1.1 + 1, io := m2.2.io }
    let rti := { s with
      p := { n := m1.1.getLsbD 7, v := m1.1.getLsbD 6, t := m1.1.getLsbD 5, d := m1.1.getLsbD 3
             i := m1.1.getLsbD 2, z := m1.1.getLsbD 1, c := m1.1.getLsbD 0 }
      sp := s.sp + 3, pc := joinBytes m3.1 m2.1, io := m3.2.io }
    exec .rts s = .next rts ∧ SameMemory s rts ∧ exec .rti s = .next rti ∧ SameMemory s rti

/-- BRK (R450, R520): the entry sequence with vector $FFF6, B = 1 and return address PC + 2, the pushed T
being 0. -/
def Obligations.BreakResult : Prop :=
  ∀ s : State,
    let f := { s with p := { s.p with t := false } }
    let t := f.entered 0xFFF6#16 true (s.pc + 2)
    exec .brk s = .next t ∧
      PushedBytes s t [hiByte (s.pc + 2), loByte (s.pc + 2), f.p.toByte true]

/-- ST0, ST1 and ST2 write the immediate to physical $1FE000, $1FE002 and $1FE003 whatever the mapping
(R316 to R318, 20_memory.md R105): the HuC6270 sees the write, nothing else changes. -/
def Obligations.ImmediateStoreResult : Prop :=
  ∀ (s : State) (nn : Byte),
    let sent : PhysAddr → State := fun pa =>
      { s with
        p := { s.p with t := false }, pc := s.pc + 2
        io := { s.io.elapse with deviceLog := .write pa nn :: s.io.elapse.deviceLog } }
    exec (.st0 nn) s = .next (sent 0x1FE000#21) ∧
    exec (.st1 nn) s = .next (sent 0x1FE002#21) ∧
    exec (.st2 nn) s = .next (sent 0x1FE003#21) ∧
    ∀ pa, SameMemory s (sent pa)

/-- TAM loads A into the mapping registers its mask selects and, with a mask that is not zero, into the
latch (R319; log 27); TMA loads A from the one register its mask selects, or from the latch with mask 0,
and writes no flag but T (R320). -/
def Obligations.MappingTransferResult : Prop :=
  ∀ (s : State) (mask : Byte) (k : Fin 8),
    let f := { s with p := { s.p with t := false }, pc := s.pc + 2 }
    (∃ t, exec (.tam mask) s = .next t ∧
      (∀ j : Fin 8, t.mpr.get j = if mask.getLsbD j.val then s.a else s.mpr.get j) ∧
      t = { f with mpr := t.mpr, mprLatch := if mask = 0 then s.mprLatch else s.a }) ∧
    exec (.tma (1#8 <<< k.val)) s = .next { f with a := s.mpr.get k } ∧
    exec (.tma 0) s = .next { f with a := s.mprLatch } ∧
    SameMemory s f

/-- The five block transfers (R350 to R355), whatever they read and write, RAM, ROM, ports or devices: Y,
A and X are pushed, the bytes are moved one by one (`State.moved`), X, A and Y are pulled; memory and
block $FF are as these accesses leave them, the program counter goes to PC + 7, S, the mapping and every
flag but T are unchanged (log 33). No byte of memory changes but those at the destination addresses and
the three stack bytes; and where those three are RAM and no byte is moved onto them, A, X and Y are as
before. -/
def Obligations.BlockTransferResult : Prop :=
  ∀ (i : Instr) (src dst : Motion) (ssss dddd llll : Word) (s : State),
    i.form = .blk ssss dddd llll →
    ((i.mnemonic = .tii ∧ src = .increment ∧ dst = .increment) ∨
      (i.mnemonic = .tdd ∧ src = .decrement ∧ dst = .decrement) ∨
      (i.mnemonic = .tin ∧ src = .increment ∧ dst = .fixed) ∨
      (i.mnemonic = .tia ∧ src = .increment ∧ dst = .alternate) ∨
      (i.mnemonic = .tai ∧ src = .alternate ∧ dst = .increment)) →
    let n := if llll = 0 then 65536 else llll.toNat
    let w := ((s.memWrite (stackAddr s.sp) s.y).memWrite (stackAddr (s.sp - 1)) s.a).memWrite
      (stackAddr (s.sp - 2)) s.x
    let m := w.moved src dst ssss dddd n
    let x := m.memRead (stackAddr (s.sp - 2))
    let a := x.2.memRead (stackAddr (s.sp - 1))
    let y := a.2.memRead (stackAddr s.sp)
    ∃ sh dh lh,
      let t := { s with
        a := a.1, x := x.1, y := y.1, p := { s.p with t := false }, pc := s.pc + 7
        sh := sh, dh := dh, lh := lh, mem := m.mem, io := y.2.io }
      exec i s = .next t ∧
      (∀ q : PhysAddr, (∀ k : Nat, k < n → q ≠ s.translate (motionAt dst dddd k)) →
        (∀ j : Nat, j < 3 → q ≠ s.stackSlot (BitVec.ofNat 8 j)) → t.peek q = s.peek q) ∧
      (s.mem.wf = true →
        (∀ j : Nat, j < 3 → s.isRam (s.stackSlot (BitVec.ofNat 8 j)) = true) →
        (∀ j k : Nat, j < 3 → k < n →
          s.translate (motionAt dst dddd k) ≠ s.stackSlot (BitVec.ofNat 8 j)) →
        t.a = s.a ∧ t.x = s.x ∧ t.y = s.y)

/-- What a block transfer leaves in RAM (R350), for every one of the five. A byte whose source is RAM or
ROM, is not written by an earlier byte and is none of the three stack bytes ends at its destination,
where that is RAM and no later byte is written there: so a copy between disjoint ranges copies every
byte, and at a fixed or alternating destination the last byte written wins. And where each byte's
destination is the next byte's source, as for TII with dddd = ssss + 1 and TDD with dddd = ssss - 1,
the first byte fills the range. -/
def Obligations.BlockTransferCopies : Prop :=
  ∀ (i : Instr) (src dst : Motion) (ssss dddd llll : Word) (s : State),
    i.form = .blk ssss dddd llll →
    ((i.mnemonic = .tii ∧ src = .increment ∧ dst = .increment) ∨
      (i.mnemonic = .tdd ∧ src = .decrement ∧ dst = .decrement) ∨
      (i.mnemonic = .tin ∧ src = .increment ∧ dst = .fixed) ∨
      (i.mnemonic = .tia ∧ src = .increment ∧ dst = .alternate) ∨
      (i.mnemonic = .tai ∧ src = .alternate ∧ dst = .increment)) →
    let n := if llll = 0 then 65536 else llll.toNat
    let from_ : Nat → PhysAddr := fun k => s.translate (motionAt src ssss k)
    let to_ : Nat → PhysAddr := fun k => s.translate (motionAt dst dddd k)
    let unsaved : PhysAddr → Prop := fun q => ∀ j : Nat, j < 3 → q ≠ s.stackSlot (BitVec.ofNat 8 j)
    s.mem.wf = true →
    ∃ t, exec i s = .next t ∧
      (∀ k : Nat, k < n → s.isMemory (from_ k) = true → s.isRam (to_ k) = true →
        (∀ j : Nat, j < k → to_ j ≠ from_ k) → unsaved (from_ k) →
        (∀ j : Nat, k < j → j < n → to_ j ≠ to_ k) →
        t.peek (to_ k) = s.peek (from_ k)) ∧
      (s.isMemory (from_ 0) = true → unsaved (from_ 0) →
        (∀ k : Nat, k < n → s.isRam (to_ k) = true) →
        (∀ k : Nat, k + 1 < n → from_ (k + 1) = to_ k) →
        (∀ j k : Nat, j < k → k < n → to_ j ≠ to_ k) →
        ∀ k : Nat, k < n → t.peek (to_ k) = s.peek (from_ 0))

/-- Cycle counts (70_reset_and_hazards.md R621, R622; log 23): the table of R621 by class and mode, its
list of the others, and the modifiers: decimal mode adds one to ADC and SBC, T mode three to ADC, AND, EOR
and ORA, a conditional branch that is taken two, BBRi and BBSi among them; none takes fewer than two. A
block transfer takes 17 + 6 for each byte where no byte comes from or goes to the HuC6270, and at least
one more for each byte that does. -/
def Obligations.CycleCounts : Prop :=
  ∀ (i : Instr) (s : State),
    let decimal := if s.p.d then 1 else 0
    let tMode := if s.p.t then 3 else 0
    let extra :=
      if i.mnemonic = .adc then decimal + tMode
      else if i.mnemonic = .sbc then decimal
      else if i.mnemonic ∈ [Mnemonic.and, .eor, .ora] then tMode
      else 0
    2 ≤ cycleCount i s ∧
    (i.mnemonic ∈ [Mnemonic.adc, .and, .cmp, .eor, .lda, .ora, .sbc, .sta, .ldx, .ldy, .stx, .sty,
        .stz, .cpx, .cpy, .bit] →
      (∀ nn, i.form = .imm nn → cycleCount i s = 2 + extra) ∧
      (∀ ea, i.form = .mem ea → cycleCount i s = cyclesByMode 4 5 7 ea + extra)) ∧
    (i.mnemonic ∈ [Mnemonic.asl, .lsr, .rol, .ror, .inc, .dec, .trb, .tsb] →
      (i.form = .acc → cycleCount i s = 2) ∧
      (∀ ea, i.form = .mem ea → cycleCount i s = cyclesByMode 6 7 7 ea)) ∧
    (∀ k, i.mnemonic = .rmb k ∨ i.mnemonic = .smb k → cycleCount i s = 7) ∧
    (∀ nn ea, i.form = .immMem nn ea → cycleCount i s = cyclesByMode 7 8 8 ea) ∧
    (∀ hhll, (i = .jmpAbs hhll → cycleCount i s = 4) ∧ (i = .jmpAbsInd hhll → cycleCount i s = 7) ∧
      (i = .jmpAbsXInd hhll → cycleCount i s = 7)) ∧
    (∀ src dst ssss dddd llll, i.form = .blk ssss dddd llll →
      ((i.mnemonic = .tii ∧ src = .increment ∧ dst = .increment) ∨
        (i.mnemonic = .tdd ∧ src = .decrement ∧ dst = .decrement) ∨
        (i.mnemonic = .tin ∧ src = .increment ∧ dst = .fixed) ∨
        (i.mnemonic = .tia ∧ src = .increment ∧ dst = .alternate) ∨
        (i.mnemonic = .tai ∧ src = .alternate ∧ dst = .increment)) →
      let n := if llll = 0 then 65536 else llll.toNat
      let vdc : Word → Bool := fun la =>
        decide (0x1FE000 ≤ (s.translate la).toNat ∧ (s.translate la).toNat < 0x1FE400)
      let viaVdc : Nat → Bool := fun k => vdc (motionAt src ssss k) || vdc (motionAt dst dddd k)
      ((∀ k : Nat, k < n → viaVdc k = false) → cycleCount i s = 17 + 6 * n) ∧
      17 + 6 * n + (List.range n).countP viaVdc ≤ cycleCount i s) ∧
    (i.mnemonic ∈ [Mnemonic.cla, .clx, .cly, .clc, .cld, .cli, .clv, .sec, .sed, .sei, .setT, .dex,
      .dey, .inx, .iny, .nop, .tax, .tay, .tsx, .txa, .txs, .tya] → cycleCount i s = 2) ∧
    (i.mnemonic ∈ [Mnemonic.pha, .php, .phx, .phy, .sax, .say, .sxy, .csh, .csl] →
      cycleCount i s = 3) ∧
    (i.mnemonic ∈ [Mnemonic.pla, .plp, .plx, .ply, .st0, .st1, .st2, .tma, .bra] →
      cycleCount i s = 4) ∧
    (i.mnemonic = .tam → cycleCount i s = 5) ∧
    (i.mnemonic ∈ [Mnemonic.jsr, .rts, .rti] → cycleCount i s = 7) ∧
    (i.mnemonic ∈ [Mnemonic.bsr, .brk] → cycleCount i s = 8) ∧
    (i.mnemonic = .beq → cycleCount i s = if s.p.z then 4 else 2) ∧
    (i.mnemonic = .bne → cycleCount i s = if s.p.z then 2 else 4) ∧
    (i.mnemonic = .bcs → cycleCount i s = if s.p.c then 4 else 2) ∧
    (i.mnemonic = .bcc → cycleCount i s = if s.p.c then 2 else 4) ∧
    (i.mnemonic = .bmi → cycleCount i s = if s.p.n then 4 else 2) ∧
    (i.mnemonic = .bpl → cycleCount i s = if s.p.n then 2 else 4) ∧
    (i.mnemonic = .bvs → cycleCount i s = if s.p.v then 4 else 2) ∧
    (i.mnemonic = .bvc → cycleCount i s = if s.p.v then 2 else 4) ∧
    (∀ k zz rr, i.form = .zpRel zz rr →
      (i.mnemonic = .bbr k →
        cycleCount i s = if (s.memRead (zpAddr zz)).1.getLsbD k.val then 6 else 8) ∧
      (i.mnemonic = .bbs k →
        cycleCount i s = if (s.memRead (zpAddr zz)).1.getLsbD k.val then 8 else 6))
end

