-- ==== Sys2Proof/Laws/Memory.lean ====
section
/-!
SUPPORT. The laws of memory: reading after writing, and that a write keeps the canonical form.
-/

namespace Sys2Proof.Machine

@[simp] theorem Memory.read_nil (k : Nat) : Memory.read [] k = Config.unlistedByte := rfl

theorem Memory.read_cons (a : Nat) (v : Byte) (m : Memory) (k : Nat) :
    Memory.read ((a, v) :: m) k = if a = k then v else Memory.read m k := rfl

/-- A canonical memory lists nothing at or below an address under its first entry. -/
theorem Memory.read_eq_unlisted (m : Memory) (k : Nat) (h : ∀ c ∈ m, k < c.1) :
    Memory.read m k = Config.unlistedByte := by
  induction m with
  | nil => rfl
  | cons c m ih =>
    have hc := h c List.mem_cons_self
    rw [Memory.read_cons, if_neg (by omega)]
    exact ih fun d hd => h d (List.mem_cons_of_mem _ hd)

/-- What the canonical form says of a memory with a first entry. -/
theorem Memory.wf_cons (a : Nat) (v : Byte) (m : Memory) :
    Memory.wf ((a, v) :: m) = true ↔
      v ≠ Config.unlistedByte ∧ (∀ c ∈ m, a < c.1) ∧ Memory.wf m = true := by
  simp [Memory.wf, and_assoc]

theorem Memory.read_consEntry (k : Nat) (v : Byte) (m : Memory) (h : ∀ c ∈ m, k < c.1) (j : Nat) :
    Memory.read (Memory.cons k v m) j = if k = j then v else Memory.read m j := by
  unfold Memory.cons
  split
  · next hv =>
    split
    · next hj => subst hj; rw [Memory.read_eq_unlisted m k h, hv]
    · rfl
  · rfl

/-- Reading after a write: the written byte at its address, the old byte everywhere else. -/
theorem Memory.read_write (m : Memory) (hm : m.wf = true) (k : Nat) (v : Byte) (j : Nat) :
    Memory.read (m.write k v) j = if k = j then v else Memory.read m j := by
  induction m with
  | nil => exact Memory.read_consEntry k v [] (by simp) j
  | cons c m ih =>
    obtain ⟨a, w⟩ := c
    obtain ⟨-, hlt, hm⟩ := (Memory.wf_cons a w m).1 hm
    unfold Memory.write
    split
    · next hk =>
      refine Memory.read_consEntry k v _ (fun c hc => ?_) j
      rcases List.mem_cons.1 hc with rfl | hc
      · exact hk
      · exact Nat.lt_trans hk (hlt c hc)
    · split
      · next hk =>
        subst hk
        rw [Memory.read_consEntry k v m hlt, Memory.read_cons]
        split <;> rfl
      · next hk =>
        rw [Memory.read_cons, Memory.read_cons, ih hm]
        split
        · next ha => subst ha; rw [if_neg (by omega)]
        · rfl

/-- A write leaves every other address alone, whatever the memory's form. -/
theorem Memory.read_write_ne (m : Memory) {k j : Nat} (v : Byte) (h : k ≠ j) :
    Memory.read (m.write k v) j = Memory.read m j := by
  have hcons : ∀ n : Memory, Memory.read (Memory.cons k v n) j = Memory.read n j := by
    intro n
    unfold Memory.cons
    split
    · rfl
    · rw [Memory.read_cons, if_neg h]
  induction m with
  | nil => exact hcons []
  | cons c m ih =>
    obtain ⟨a, w⟩ := c
    unfold Memory.write
    split
    · exact hcons _
    · split
      · next hk => rw [hcons, Memory.read_cons, if_neg (by omega)]
      · rw [Memory.read_cons, Memory.read_cons, ih]

theorem Memory.mem_consEntry {k : Nat} {v : Byte} {m : Memory} {c : Host.Cell}
    (h : c ∈ Memory.cons k v m) : c.1 = k ∨ c ∈ m := by
  unfold Memory.cons at h
  split at h
  · exact .inr h
  · rcases List.mem_cons.1 h with rfl | h
    · exact .inl rfl
    · exact .inr h

/-- A write lists no address but its own and those listed before. -/
theorem Memory.mem_write {m : Memory} {k : Nat} {v : Byte} {c : Host.Cell} (h : c ∈ m.write k v) :
    c.1 = k ∨ c ∈ m := by
  induction m with
  | nil => exact Memory.mem_consEntry h
  | cons d m ih =>
    obtain ⟨a, w⟩ := d
    unfold Memory.write at h
    split at h
    · exact Memory.mem_consEntry h
    · split at h
      · exact (Memory.mem_consEntry h).imp_right (List.mem_cons_of_mem _)
      · rcases List.mem_cons.1 h with rfl | h
        · exact .inr List.mem_cons_self
        · exact (ih h).imp_right (List.mem_cons_of_mem _)

theorem Memory.wf_consEntry {k : Nat} {v : Byte} {m : Memory} (h : ∀ c ∈ m, k < c.1)
    (hm : m.wf = true) : (Memory.cons k v m).wf = true := by
  unfold Memory.cons
  split
  · exact hm
  · next hv => exact (Memory.wf_cons k v m).2 ⟨hv, h, hm⟩

/-- Every write keeps the canonical form. -/
theorem Memory.write_wf {m : Memory} (hm : m.wf = true) (k : Nat) (v : Byte) :
    (m.write k v).wf = true := by
  induction m with
  | nil => exact Memory.wf_consEntry (by simp) rfl
  | cons c m ih =>
    obtain ⟨a, w⟩ := c
    obtain ⟨hw, hlt, htail⟩ := (Memory.wf_cons a w m).1 hm
    unfold Memory.write
    split
    · next hk =>
      refine Memory.wf_consEntry (fun c hc => ?_) hm
      rcases List.mem_cons.1 hc with rfl | hc
      · exact hk
      · exact Nat.lt_trans hk (hlt c hc)
    · split
      · next hk => subst hk; exact Memory.wf_consEntry hlt htail
      · next hk =>
        refine (Memory.wf_cons a w _).2 ⟨hw, fun c hc => ?_, ih htail⟩
        rcases Memory.mem_write hc with h | h
        · omega
        · exact hlt c h

theorem Memory.below_iff {b : Nat} {m : Memory} : m.below b = true ↔ ∀ c ∈ m, c.1 < b := by
  simp [Memory.below]

/-- A write below a bound keeps every listed address below it. -/
theorem Memory.write_below {m : Memory} {b k : Nat} (hm : m.below b = true) (hk : k < b) (v : Byte) :
    (m.write k v).below b = true :=
  Memory.below_iff.2 fun c hc => (Memory.mem_write hc).elim (fun h => h ▸ hk)
    (Memory.below_iff.1 hm c)

end Sys2Proof.Machine
end

