-- ==== Sys2Proof/Laws/State.lean ====
section
/-!
SUPPORT. One lemma per field per update of the state, each true by `rfl`, so that no later proof
unfolds a record update.
-/

namespace Sys2Proof.Machine

variable (s : State)

/-! Fields after `State.setA`. -/

@[simp] theorem State.setA_a (v : Byte) : (s.setA v).a = v := rfl
@[simp] theorem State.setA_x (v : Byte) : (s.setA v).x = s.x := rfl
@[simp] theorem State.setA_y (v : Byte) : (s.setA v).y = s.y := rfl
@[simp] theorem State.setA_sp (v : Byte) : (s.setA v).sp = s.sp := rfl
@[simp] theorem State.setA_pc (v : Byte) : (s.setA v).pc = s.pc := rfl
@[simp] theorem State.setA_p (v : Byte) : (s.setA v).p = s.p := rfl
@[simp] theorem State.setA_sh (v : Byte) : (s.setA v).sh = s.sh := rfl
@[simp] theorem State.setA_dh (v : Byte) : (s.setA v).dh = s.dh := rfl
@[simp] theorem State.setA_lh (v : Byte) : (s.setA v).lh = s.lh := rfl
@[simp] theorem State.setA_mpr (v : Byte) : (s.setA v).mpr = s.mpr := rfl
@[simp] theorem State.setA_mprLatch (v : Byte) : (s.setA v).mprLatch = s.mprLatch := rfl
@[simp] theorem State.setA_speed (v : Byte) : (s.setA v).speed = s.speed := rfl
@[simp] theorem State.setA_intSel (v : Byte) : (s.setA v).intSel = s.intSel := rfl
@[simp] theorem State.setA_mem (v : Byte) : (s.setA v).mem = s.mem := rfl
@[simp] theorem State.setA_platform (v : Byte) : (s.setA v).platform = s.platform := rfl
@[simp] theorem State.setA_io (v : Byte) : (s.setA v).io = s.io := rfl

/-! Fields after `State.setX`. -/

@[simp] theorem State.setX_a (v : Byte) : (s.setX v).a = s.a := rfl
@[simp] theorem State.setX_x (v : Byte) : (s.setX v).x = v := rfl
@[simp] theorem State.setX_y (v : Byte) : (s.setX v).y = s.y := rfl
@[simp] theorem State.setX_sp (v : Byte) : (s.setX v).sp = s.sp := rfl
@[simp] theorem State.setX_pc (v : Byte) : (s.setX v).pc = s.pc := rfl
@[simp] theorem State.setX_p (v : Byte) : (s.setX v).p = s.p := rfl
@[simp] theorem State.setX_sh (v : Byte) : (s.setX v).sh = s.sh := rfl
@[simp] theorem State.setX_dh (v : Byte) : (s.setX v).dh = s.dh := rfl
@[simp] theorem State.setX_lh (v : Byte) : (s.setX v).lh = s.lh := rfl
@[simp] theorem State.setX_mpr (v : Byte) : (s.setX v).mpr = s.mpr := rfl
@[simp] theorem State.setX_mprLatch (v : Byte) : (s.setX v).mprLatch = s.mprLatch := rfl
@[simp] theorem State.setX_speed (v : Byte) : (s.setX v).speed = s.speed := rfl
@[simp] theorem State.setX_intSel (v : Byte) : (s.setX v).intSel = s.intSel := rfl
@[simp] theorem State.setX_mem (v : Byte) : (s.setX v).mem = s.mem := rfl
@[simp] theorem State.setX_platform (v : Byte) : (s.setX v).platform = s.platform := rfl
@[simp] theorem State.setX_io (v : Byte) : (s.setX v).io = s.io := rfl

/-! Fields after `State.setY`. -/

@[simp] theorem State.setY_a (v : Byte) : (s.setY v).a = s.a := rfl
@[simp] theorem State.setY_x (v : Byte) : (s.setY v).x = s.x := rfl
@[simp] theorem State.setY_y (v : Byte) : (s.setY v).y = v := rfl
@[simp] theorem State.setY_sp (v : Byte) : (s.setY v).sp = s.sp := rfl
@[simp] theorem State.setY_pc (v : Byte) : (s.setY v).pc = s.pc := rfl
@[simp] theorem State.setY_p (v : Byte) : (s.setY v).p = s.p := rfl
@[simp] theorem State.setY_sh (v : Byte) : (s.setY v).sh = s.sh := rfl
@[simp] theorem State.setY_dh (v : Byte) : (s.setY v).dh = s.dh := rfl
@[simp] theorem State.setY_lh (v : Byte) : (s.setY v).lh = s.lh := rfl
@[simp] theorem State.setY_mpr (v : Byte) : (s.setY v).mpr = s.mpr := rfl
@[simp] theorem State.setY_mprLatch (v : Byte) : (s.setY v).mprLatch = s.mprLatch := rfl
@[simp] theorem State.setY_speed (v : Byte) : (s.setY v).speed = s.speed := rfl
@[simp] theorem State.setY_intSel (v : Byte) : (s.setY v).intSel = s.intSel := rfl
@[simp] theorem State.setY_mem (v : Byte) : (s.setY v).mem = s.mem := rfl
@[simp] theorem State.setY_platform (v : Byte) : (s.setY v).platform = s.platform := rfl
@[simp] theorem State.setY_io (v : Byte) : (s.setY v).io = s.io := rfl

/-! Fields after `State.setSp`. -/

@[simp] theorem State.setSp_a (v : Byte) : (s.setSp v).a = s.a := rfl
@[simp] theorem State.setSp_x (v : Byte) : (s.setSp v).x = s.x := rfl
@[simp] theorem State.setSp_y (v : Byte) : (s.setSp v).y = s.y := rfl
@[simp] theorem State.setSp_sp (v : Byte) : (s.setSp v).sp = v := rfl
@[simp] theorem State.setSp_pc (v : Byte) : (s.setSp v).pc = s.pc := rfl
@[simp] theorem State.setSp_p (v : Byte) : (s.setSp v).p = s.p := rfl
@[simp] theorem State.setSp_sh (v : Byte) : (s.setSp v).sh = s.sh := rfl
@[simp] theorem State.setSp_dh (v : Byte) : (s.setSp v).dh = s.dh := rfl
@[simp] theorem State.setSp_lh (v : Byte) : (s.setSp v).lh = s.lh := rfl
@[simp] theorem State.setSp_mpr (v : Byte) : (s.setSp v).mpr = s.mpr := rfl
@[simp] theorem State.setSp_mprLatch (v : Byte) : (s.setSp v).mprLatch = s.mprLatch := rfl
@[simp] theorem State.setSp_speed (v : Byte) : (s.setSp v).speed = s.speed := rfl
@[simp] theorem State.setSp_intSel (v : Byte) : (s.setSp v).intSel = s.intSel := rfl
@[simp] theorem State.setSp_mem (v : Byte) : (s.setSp v).mem = s.mem := rfl
@[simp] theorem State.setSp_platform (v : Byte) : (s.setSp v).platform = s.platform := rfl
@[simp] theorem State.setSp_io (v : Byte) : (s.setSp v).io = s.io := rfl

/-! Fields after `State.setPc`. -/

@[simp] theorem State.setPc_a (w : Word) : (s.setPc w).a = s.a := rfl
@[simp] theorem State.setPc_x (w : Word) : (s.setPc w).x = s.x := rfl
@[simp] theorem State.setPc_y (w : Word) : (s.setPc w).y = s.y := rfl
@[simp] theorem State.setPc_sp (w : Word) : (s.setPc w).sp = s.sp := rfl
@[simp] theorem State.setPc_pc (w : Word) : (s.setPc w).pc = w := rfl
@[simp] theorem State.setPc_p (w : Word) : (s.setPc w).p = s.p := rfl
@[simp] theorem State.setPc_sh (w : Word) : (s.setPc w).sh = s.sh := rfl
@[simp] theorem State.setPc_dh (w : Word) : (s.setPc w).dh = s.dh := rfl
@[simp] theorem State.setPc_lh (w : Word) : (s.setPc w).lh = s.lh := rfl
@[simp] theorem State.setPc_mpr (w : Word) : (s.setPc w).mpr = s.mpr := rfl
@[simp] theorem State.setPc_mprLatch (w : Word) : (s.setPc w).mprLatch = s.mprLatch := rfl
@[simp] theorem State.setPc_speed (w : Word) : (s.setPc w).speed = s.speed := rfl
@[simp] theorem State.setPc_intSel (w : Word) : (s.setPc w).intSel = s.intSel := rfl
@[simp] theorem State.setPc_mem (w : Word) : (s.setPc w).mem = s.mem := rfl
@[simp] theorem State.setPc_platform (w : Word) : (s.setPc w).platform = s.platform := rfl
@[simp] theorem State.setPc_io (w : Word) : (s.setPc w).io = s.io := rfl

/-! Fields after `State.setP`. -/

@[simp] theorem State.setP_a (p : Flags) : (s.setP p).a = s.a := rfl
@[simp] theorem State.setP_x (p : Flags) : (s.setP p).x = s.x := rfl
@[simp] theorem State.setP_y (p : Flags) : (s.setP p).y = s.y := rfl
@[simp] theorem State.setP_sp (p : Flags) : (s.setP p).sp = s.sp := rfl
@[simp] theorem State.setP_pc (p : Flags) : (s.setP p).pc = s.pc := rfl
@[simp] theorem State.setP_p (p : Flags) : (s.setP p).p = p := rfl
@[simp] theorem State.setP_sh (p : Flags) : (s.setP p).sh = s.sh := rfl
@[simp] theorem State.setP_dh (p : Flags) : (s.setP p).dh = s.dh := rfl
@[simp] theorem State.setP_lh (p : Flags) : (s.setP p).lh = s.lh := rfl
@[simp] theorem State.setP_mpr (p : Flags) : (s.setP p).mpr = s.mpr := rfl
@[simp] theorem State.setP_mprLatch (p : Flags) : (s.setP p).mprLatch = s.mprLatch := rfl
@[simp] theorem State.setP_speed (p : Flags) : (s.setP p).speed = s.speed := rfl
@[simp] theorem State.setP_intSel (p : Flags) : (s.setP p).intSel = s.intSel := rfl
@[simp] theorem State.setP_mem (p : Flags) : (s.setP p).mem = s.mem := rfl
@[simp] theorem State.setP_platform (p : Flags) : (s.setP p).platform = s.platform := rfl
@[simp] theorem State.setP_io (p : Flags) : (s.setP p).io = s.io := rfl

/-! Fields after `State.clearT`. -/

@[simp] theorem State.clearT_a : (s.clearT).a = s.a := rfl
@[simp] theorem State.clearT_x : (s.clearT).x = s.x := rfl
@[simp] theorem State.clearT_y : (s.clearT).y = s.y := rfl
@[simp] theorem State.clearT_sp : (s.clearT).sp = s.sp := rfl
@[simp] theorem State.clearT_pc : (s.clearT).pc = s.pc := rfl
@[simp] theorem State.clearT_p : (s.clearT).p = { s.p with t := false } := rfl
@[simp] theorem State.clearT_sh : (s.clearT).sh = s.sh := rfl
@[simp] theorem State.clearT_dh : (s.clearT).dh = s.dh := rfl
@[simp] theorem State.clearT_lh : (s.clearT).lh = s.lh := rfl
@[simp] theorem State.clearT_mpr : (s.clearT).mpr = s.mpr := rfl
@[simp] theorem State.clearT_mprLatch : (s.clearT).mprLatch = s.mprLatch := rfl
@[simp] theorem State.clearT_speed : (s.clearT).speed = s.speed := rfl
@[simp] theorem State.clearT_intSel : (s.clearT).intSel = s.intSel := rfl
@[simp] theorem State.clearT_mem : (s.clearT).mem = s.mem := rfl
@[simp] theorem State.clearT_platform : (s.clearT).platform = s.platform := rfl
@[simp] theorem State.clearT_io : (s.clearT).io = s.io := rfl

/-! Fields after `State.setNZ`. -/

@[simp] theorem State.setNZ_a (v : Byte) : (s.setNZ v).a = s.a := rfl
@[simp] theorem State.setNZ_x (v : Byte) : (s.setNZ v).x = s.x := rfl
@[simp] theorem State.setNZ_y (v : Byte) : (s.setNZ v).y = s.y := rfl
@[simp] theorem State.setNZ_sp (v : Byte) : (s.setNZ v).sp = s.sp := rfl
@[simp] theorem State.setNZ_pc (v : Byte) : (s.setNZ v).pc = s.pc := rfl
@[simp] theorem State.setNZ_p (v : Byte) : (s.setNZ v).p = s.p.setNZ v := rfl
@[simp] theorem State.setNZ_sh (v : Byte) : (s.setNZ v).sh = s.sh := rfl
@[simp] theorem State.setNZ_dh (v : Byte) : (s.setNZ v).dh = s.dh := rfl
@[simp] theorem State.setNZ_lh (v : Byte) : (s.setNZ v).lh = s.lh := rfl
@[simp] theorem State.setNZ_mpr (v : Byte) : (s.setNZ v).mpr = s.mpr := rfl
@[simp] theorem State.setNZ_mprLatch (v : Byte) : (s.setNZ v).mprLatch = s.mprLatch := rfl
@[simp] theorem State.setNZ_speed (v : Byte) : (s.setNZ v).speed = s.speed := rfl
@[simp] theorem State.setNZ_intSel (v : Byte) : (s.setNZ v).intSel = s.intSel := rfl
@[simp] theorem State.setNZ_mem (v : Byte) : (s.setNZ v).mem = s.mem := rfl
@[simp] theorem State.setNZ_platform (v : Byte) : (s.setNZ v).platform = s.platform := rfl
@[simp] theorem State.setNZ_io (v : Byte) : (s.setNZ v).io = s.io := rfl

/-! Fields after `State.advance`. -/

@[simp] theorem State.advance_a (n : Nat) : (s.advance n).a = s.a := rfl
@[simp] theorem State.advance_x (n : Nat) : (s.advance n).x = s.x := rfl
@[simp] theorem State.advance_y (n : Nat) : (s.advance n).y = s.y := rfl
@[simp] theorem State.advance_sp (n : Nat) : (s.advance n).sp = s.sp := rfl
@[simp] theorem State.advance_pc (n : Nat) : (s.advance n).pc = s.pc + BitVec.ofNat 16 n := rfl
@[simp] theorem State.advance_p (n : Nat) : (s.advance n).p = s.p := rfl
@[simp] theorem State.advance_sh (n : Nat) : (s.advance n).sh = s.sh := rfl
@[simp] theorem State.advance_dh (n : Nat) : (s.advance n).dh = s.dh := rfl
@[simp] theorem State.advance_lh (n : Nat) : (s.advance n).lh = s.lh := rfl
@[simp] theorem State.advance_mpr (n : Nat) : (s.advance n).mpr = s.mpr := rfl
@[simp] theorem State.advance_mprLatch (n : Nat) : (s.advance n).mprLatch = s.mprLatch := rfl
@[simp] theorem State.advance_speed (n : Nat) : (s.advance n).speed = s.speed := rfl
@[simp] theorem State.advance_intSel (n : Nat) : (s.advance n).intSel = s.intSel := rfl
@[simp] theorem State.advance_mem (n : Nat) : (s.advance n).mem = s.mem := rfl
@[simp] theorem State.advance_platform (n : Nat) : (s.advance n).platform = s.platform := rfl
@[simp] theorem State.advance_io (n : Nat) : (s.advance n).io = s.io := rfl

/-! Fields after `State.elapse`. -/

@[simp] theorem State.elapse_a : (s.elapse).a = s.a := rfl
@[simp] theorem State.elapse_x : (s.elapse).x = s.x := rfl
@[simp] theorem State.elapse_y : (s.elapse).y = s.y := rfl
@[simp] theorem State.elapse_sp : (s.elapse).sp = s.sp := rfl
@[simp] theorem State.elapse_pc : (s.elapse).pc = s.pc := rfl
@[simp] theorem State.elapse_p : (s.elapse).p = s.p := rfl
@[simp] theorem State.elapse_sh : (s.elapse).sh = s.sh := rfl
@[simp] theorem State.elapse_dh : (s.elapse).dh = s.dh := rfl
@[simp] theorem State.elapse_lh : (s.elapse).lh = s.lh := rfl
@[simp] theorem State.elapse_mpr : (s.elapse).mpr = s.mpr := rfl
@[simp] theorem State.elapse_mprLatch : (s.elapse).mprLatch = s.mprLatch := rfl
@[simp] theorem State.elapse_speed : (s.elapse).speed = s.speed := rfl
@[simp] theorem State.elapse_intSel : (s.elapse).intSel = s.intSel := rfl
@[simp] theorem State.elapse_mem : (s.elapse).mem = s.mem := rfl
@[simp] theorem State.elapse_platform : (s.elapse).platform = s.platform := rfl
@[simp] theorem State.elapse_io : (s.elapse).io = s.io.elapse := rfl

/-! Fields after `State.logAccess`. -/

@[simp] theorem State.logAccess_a (d : DeviceAccess) : (s.logAccess d).a = s.a := rfl
@[simp] theorem State.logAccess_x (d : DeviceAccess) : (s.logAccess d).x = s.x := rfl
@[simp] theorem State.logAccess_y (d : DeviceAccess) : (s.logAccess d).y = s.y := rfl
@[simp] theorem State.logAccess_sp (d : DeviceAccess) : (s.logAccess d).sp = s.sp := rfl
@[simp] theorem State.logAccess_pc (d : DeviceAccess) : (s.logAccess d).pc = s.pc := rfl
@[simp] theorem State.logAccess_p (d : DeviceAccess) : (s.logAccess d).p = s.p := rfl
@[simp] theorem State.logAccess_sh (d : DeviceAccess) : (s.logAccess d).sh = s.sh := rfl
@[simp] theorem State.logAccess_dh (d : DeviceAccess) : (s.logAccess d).dh = s.dh := rfl
@[simp] theorem State.logAccess_lh (d : DeviceAccess) : (s.logAccess d).lh = s.lh := rfl
@[simp] theorem State.logAccess_mpr (d : DeviceAccess) : (s.logAccess d).mpr = s.mpr := rfl
@[simp] theorem State.logAccess_mprLatch (d : DeviceAccess) :
    (s.logAccess d).mprLatch = s.mprLatch := rfl
@[simp] theorem State.logAccess_speed (d : DeviceAccess) : (s.logAccess d).speed = s.speed := rfl
@[simp] theorem State.logAccess_intSel (d : DeviceAccess) : (s.logAccess d).intSel = s.intSel := rfl
@[simp] theorem State.logAccess_mem (d : DeviceAccess) : (s.logAccess d).mem = s.mem := rfl
@[simp] theorem State.logAccess_platform (d : DeviceAccess) :
    (s.logAccess d).platform = s.platform := rfl
@[simp] theorem State.logAccess_io (d : DeviceAccess) :
    (s.logAccess d).io = { s.io with deviceLog := d :: s.io.deviceLog } := rfl

/-! Fields after `State.countDraw`. -/

@[simp] theorem State.countDraw_a : (s.countDraw).a = s.a := rfl
@[simp] theorem State.countDraw_x : (s.countDraw).x = s.x := rfl
@[simp] theorem State.countDraw_y : (s.countDraw).y = s.y := rfl
@[simp] theorem State.countDraw_sp : (s.countDraw).sp = s.sp := rfl
@[simp] theorem State.countDraw_pc : (s.countDraw).pc = s.pc := rfl
@[simp] theorem State.countDraw_p : (s.countDraw).p = s.p := rfl
@[simp] theorem State.countDraw_sh : (s.countDraw).sh = s.sh := rfl
@[simp] theorem State.countDraw_dh : (s.countDraw).dh = s.dh := rfl
@[simp] theorem State.countDraw_lh : (s.countDraw).lh = s.lh := rfl
@[simp] theorem State.countDraw_mpr : (s.countDraw).mpr = s.mpr := rfl
@[simp] theorem State.countDraw_mprLatch : (s.countDraw).mprLatch = s.mprLatch := rfl
@[simp] theorem State.countDraw_speed : (s.countDraw).speed = s.speed := rfl
@[simp] theorem State.countDraw_intSel : (s.countDraw).intSel = s.intSel := rfl
@[simp] theorem State.countDraw_mem : (s.countDraw).mem = s.mem := rfl
@[simp] theorem State.countDraw_platform : (s.countDraw).platform = s.platform := rfl
@[simp] theorem State.countDraw_io :
    (s.countDraw).io = { s.io with freeCount := s.io.freeCount + 1 } := rfl

/-! Fields after `State.clearNmi`. -/

@[simp] theorem State.clearNmi_a : (s.clearNmi).a = s.a := rfl
@[simp] theorem State.clearNmi_x : (s.clearNmi).x = s.x := rfl
@[simp] theorem State.clearNmi_y : (s.clearNmi).y = s.y := rfl
@[simp] theorem State.clearNmi_sp : (s.clearNmi).sp = s.sp := rfl
@[simp] theorem State.clearNmi_pc : (s.clearNmi).pc = s.pc := rfl
@[simp] theorem State.clearNmi_p : (s.clearNmi).p = s.p := rfl
@[simp] theorem State.clearNmi_sh : (s.clearNmi).sh = s.sh := rfl
@[simp] theorem State.clearNmi_dh : (s.clearNmi).dh = s.dh := rfl
@[simp] theorem State.clearNmi_lh : (s.clearNmi).lh = s.lh := rfl
@[simp] theorem State.clearNmi_mpr : (s.clearNmi).mpr = s.mpr := rfl
@[simp] theorem State.clearNmi_mprLatch : (s.clearNmi).mprLatch = s.mprLatch := rfl
@[simp] theorem State.clearNmi_speed : (s.clearNmi).speed = s.speed := rfl
@[simp] theorem State.clearNmi_intSel : (s.clearNmi).intSel = s.intSel := rfl
@[simp] theorem State.clearNmi_mem : (s.clearNmi).mem = s.mem := rfl
@[simp] theorem State.clearNmi_platform : (s.clearNmi).platform = s.platform := rfl
@[simp] theorem State.clearNmi_io : (s.clearNmi).io = { s.io with nmiPending := false } := rfl

/-! Fields after `State.loadMpr`. -/

@[simp] theorem State.loadMpr_a (mask : Byte) : (s.loadMpr mask).a = s.a := rfl
@[simp] theorem State.loadMpr_x (mask : Byte) : (s.loadMpr mask).x = s.x := rfl
@[simp] theorem State.loadMpr_y (mask : Byte) : (s.loadMpr mask).y = s.y := rfl
@[simp] theorem State.loadMpr_sp (mask : Byte) : (s.loadMpr mask).sp = s.sp := rfl
@[simp] theorem State.loadMpr_pc (mask : Byte) : (s.loadMpr mask).pc = s.pc := rfl
@[simp] theorem State.loadMpr_p (mask : Byte) : (s.loadMpr mask).p = s.p := rfl
@[simp] theorem State.loadMpr_sh (mask : Byte) : (s.loadMpr mask).sh = s.sh := rfl
@[simp] theorem State.loadMpr_dh (mask : Byte) : (s.loadMpr mask).dh = s.dh := rfl
@[simp] theorem State.loadMpr_lh (mask : Byte) : (s.loadMpr mask).lh = s.lh := rfl
@[simp] theorem State.loadMpr_mpr (mask : Byte) : (s.loadMpr mask).mpr = s.mpr.load mask s.a := rfl
@[simp] theorem State.loadMpr_mprLatch (mask : Byte) :
    (s.loadMpr mask).mprLatch = if mask = 0 then s.mprLatch else s.a := rfl
@[simp] theorem State.loadMpr_speed (mask : Byte) : (s.loadMpr mask).speed = s.speed := rfl
@[simp] theorem State.loadMpr_intSel (mask : Byte) : (s.loadMpr mask).intSel = s.intSel := rfl
@[simp] theorem State.loadMpr_mem (mask : Byte) : (s.loadMpr mask).mem = s.mem := rfl
@[simp] theorem State.loadMpr_platform (mask : Byte) : (s.loadMpr mask).platform = s.platform := rfl
@[simp] theorem State.loadMpr_io (mask : Byte) : (s.loadMpr mask).io = s.io := rfl

/-! Fields after `State.loadBlockRegs`. -/

@[simp] theorem State.loadBlockRegs_a (a b c : Word) : (s.loadBlockRegs a b c).a = s.a := rfl
@[simp] theorem State.loadBlockRegs_x (a b c : Word) : (s.loadBlockRegs a b c).x = s.x := rfl
@[simp] theorem State.loadBlockRegs_y (a b c : Word) : (s.loadBlockRegs a b c).y = s.y := rfl
@[simp] theorem State.loadBlockRegs_sp (a b c : Word) : (s.loadBlockRegs a b c).sp = s.sp := rfl
@[simp] theorem State.loadBlockRegs_pc (a b c : Word) : (s.loadBlockRegs a b c).pc = s.pc := rfl
@[simp] theorem State.loadBlockRegs_p (a b c : Word) : (s.loadBlockRegs a b c).p = s.p := rfl
@[simp] theorem State.loadBlockRegs_sh (a b c : Word) : (s.loadBlockRegs a b c).sh = hiByte a := rfl
@[simp] theorem State.loadBlockRegs_dh (a b c : Word) : (s.loadBlockRegs a b c).dh = hiByte b := rfl
@[simp] theorem State.loadBlockRegs_lh (a b c : Word) : (s.loadBlockRegs a b c).lh = hiByte c := rfl
@[simp] theorem State.loadBlockRegs_mpr (a b c : Word) : (s.loadBlockRegs a b c).mpr = s.mpr := rfl
@[simp] theorem State.loadBlockRegs_mprLatch (a b c : Word) :
    (s.loadBlockRegs a b c).mprLatch = s.mprLatch := rfl
@[simp] theorem State.loadBlockRegs_speed (a b c : Word) :
    (s.loadBlockRegs a b c).speed = s.speed := rfl
@[simp] theorem State.loadBlockRegs_intSel (a b c : Word) :
    (s.loadBlockRegs a b c).intSel = s.intSel := rfl
@[simp] theorem State.loadBlockRegs_mem (a b c : Word) : (s.loadBlockRegs a b c).mem = s.mem := rfl
@[simp] theorem State.loadBlockRegs_platform (a b c : Word) :
    (s.loadBlockRegs a b c).platform = s.platform := rfl
@[simp] theorem State.loadBlockRegs_io (a b c : Word) : (s.loadBlockRegs a b c).io = s.io := rfl

end Sys2Proof.Machine
end

