-- ==== Sys2Proof/Laws/Bus.lean ====
section
/-!
SUPPORT. What a bus access can change: a read, the block $FF registers and the record of accesses; a
write, besides that one byte of RAM. Later proofs cite these and do not unfold an access.
-/

namespace Sys2Proof.Machine

/-! Reads. -/

/-- A read: the environment acts, the access may be recorded and free values drawn; nothing else. -/
theorem State.physRead_snd (s : State) (pa : PhysAddr) :
    ∃ log count, (s.physRead pa).2 =
      { s with io := { s.io.elapse with deviceLog := log, freeCount := count } } := by
  unfold State.physRead
  cases busTarget pa with
  | external =>
    unfold State.readTarget State.readExternal
    cases busKind s.elapse.platform pa.toNat with
    | ram => exact ⟨_, _, rfl⟩
    | rom => exact ⟨_, _, rfl⟩
    | device => exact ⟨_, _, rfl⟩
  | huc6270 => exact ⟨_, _, rfl⟩
  | huc6260 => exact ⟨_, _, rfl⟩
  | psg => exact ⟨_, _, rfl⟩
  | timerCounter => exact ⟨_, _, rfl⟩
  | timerControl => exact ⟨_, _, rfl⟩
  | port => exact ⟨_, _, rfl⟩
  | idr => exact ⟨_, _, rfl⟩
  | irr => exact ⟨_, _, rfl⟩
  | undecoded => exact ⟨_, _, rfl⟩

/-- A read changes block $FF, the interrupt circuit and the environment only. -/
theorem State.physRead_eq (s : State) (pa : PhysAddr) :
    (s.physRead pa).2 = { s with io := (s.physRead pa).2.io } := by
  obtain ⟨log, count, h⟩ := s.physRead_snd pa
  rw [h]

/-- The same of a read at a logical address. -/
theorem State.memRead_eq (s : State) (la : Word) :
    (s.memRead la).2 = { s with io := (s.memRead la).2.io } :=
  s.physRead_eq _

@[simp] theorem State.physRead_a (s : State) (pa : PhysAddr) :
    (s.physRead pa).2.a = s.a := by
  rw [s.physRead_eq pa]

@[simp] theorem State.physRead_x (s : State) (pa : PhysAddr) :
    (s.physRead pa).2.x = s.x := by
  rw [s.physRead_eq pa]

@[simp] theorem State.physRead_y (s : State) (pa : PhysAddr) :
    (s.physRead pa).2.y = s.y := by
  rw [s.physRead_eq pa]

@[simp] theorem State.physRead_sp (s : State) (pa : PhysAddr) :
    (s.physRead pa).2.sp = s.sp := by
  rw [s.physRead_eq pa]

@[simp] theorem State.physRead_pc (s : State) (pa : PhysAddr) :
    (s.physRead pa).2.pc = s.pc := by
  rw [s.physRead_eq pa]

@[simp] theorem State.physRead_p (s : State) (pa : PhysAddr) :
    (s.physRead pa).2.p = s.p := by
  rw [s.physRead_eq pa]

@[simp] theorem State.physRead_sh (s : State) (pa : PhysAddr) :
    (s.physRead pa).2.sh = s.sh := by
  rw [s.physRead_eq pa]

@[simp] theorem State.physRead_dh (s : State) (pa : PhysAddr) :
    (s.physRead pa).2.dh = s.dh := by
  rw [s.physRead_eq pa]

@[simp] theorem State.physRead_lh (s : State) (pa : PhysAddr) :
    (s.physRead pa).2.lh = s.lh := by
  rw [s.physRead_eq pa]

@[simp] theorem State.physRead_mpr (s : State) (pa : PhysAddr) :
    (s.physRead pa).2.mpr = s.mpr := by
  rw [s.physRead_eq pa]

@[simp] theorem State.physRead_mprLatch (s : State) (pa : PhysAddr) :
    (s.physRead pa).2.mprLatch = s.mprLatch := by
  rw [s.physRead_eq pa]

@[simp] theorem State.physRead_speed (s : State) (pa : PhysAddr) :
    (s.physRead pa).2.speed = s.speed := by
  rw [s.physRead_eq pa]

@[simp] theorem State.physRead_intSel (s : State) (pa : PhysAddr) :
    (s.physRead pa).2.intSel = s.intSel := by
  rw [s.physRead_eq pa]

@[simp] theorem State.physRead_mem (s : State) (pa : PhysAddr) :
    (s.physRead pa).2.mem = s.mem := by
  rw [s.physRead_eq pa]

@[simp] theorem State.physRead_platform (s : State) (pa : PhysAddr) :
    (s.physRead pa).2.platform = s.platform := by
  rw [s.physRead_eq pa]

@[simp] theorem State.memRead_a (s : State) (la : Word) :
    (s.memRead la).2.a = s.a :=
  s.physRead_a _

@[simp] theorem State.memRead_x (s : State) (la : Word) :
    (s.memRead la).2.x = s.x :=
  s.physRead_x _

@[simp] theorem State.memRead_y (s : State) (la : Word) :
    (s.memRead la).2.y = s.y :=
  s.physRead_y _

@[simp] theorem State.memRead_sp (s : State) (la : Word) :
    (s.memRead la).2.sp = s.sp :=
  s.physRead_sp _

@[simp] theorem State.memRead_pc (s : State) (la : Word) :
    (s.memRead la).2.pc = s.pc :=
  s.physRead_pc _

@[simp] theorem State.memRead_p (s : State) (la : Word) :
    (s.memRead la).2.p = s.p :=
  s.physRead_p _

@[simp] theorem State.memRead_sh (s : State) (la : Word) :
    (s.memRead la).2.sh = s.sh :=
  s.physRead_sh _

@[simp] theorem State.memRead_dh (s : State) (la : Word) :
    (s.memRead la).2.dh = s.dh :=
  s.physRead_dh _

@[simp] theorem State.memRead_lh (s : State) (la : Word) :
    (s.memRead la).2.lh = s.lh :=
  s.physRead_lh _

@[simp] theorem State.memRead_mpr (s : State) (la : Word) :
    (s.memRead la).2.mpr = s.mpr :=
  s.physRead_mpr _

@[simp] theorem State.memRead_mprLatch (s : State) (la : Word) :
    (s.memRead la).2.mprLatch = s.mprLatch :=
  s.physRead_mprLatch _

@[simp] theorem State.memRead_speed (s : State) (la : Word) :
    (s.memRead la).2.speed = s.speed :=
  s.physRead_speed _

@[simp] theorem State.memRead_intSel (s : State) (la : Word) :
    (s.memRead la).2.intSel = s.intSel :=
  s.physRead_intSel _

@[simp] theorem State.memRead_mem (s : State) (la : Word) :
    (s.memRead la).2.mem = s.mem :=
  s.physRead_mem _

@[simp] theorem State.memRead_platform (s : State) (la : Word) :
    (s.memRead la).2.platform = s.platform :=
  s.physRead_platform _

theorem State.isMemory_iff (s : State) (pa : PhysAddr) :
    s.isMemory pa = true ↔ pa.toNat < blockFFBase ∧ busKind s.platform pa.toNat ≠ .device := by
  simp [State.isMemory]

theorem State.isRam_iff (s : State) (pa : PhysAddr) :
    s.isRam pa = true ↔ pa.toNat < blockFFBase ∧ busKind s.platform pa.toNat = .ram := by
  simp [State.isRam]

/-- Blocks $00 to $FE are the external bus. -/
theorem busTarget_external {pa : PhysAddr} (h : pa.toNat < blockFFBase) : busTarget pa = .external := by
  unfold busTarget
  exact if_pos h

/-- Block $FF is not. -/
theorem busTarget_ne_external {pa : PhysAddr} (h : ¬ pa.toNat < blockFFBase) :
    busTarget pa ≠ .external := by
  unfold busTarget
  rw [if_neg h]
  repeat' split
  all_goals simp

/-- A read at an address of RAM or ROM answers what memory holds there, draws no free value and
records no access. -/
theorem State.physRead_memory (s : State) (pa : PhysAddr) (h : s.isMemory pa = true) :
    s.physRead pa = (s.peek pa, s.elapse) := by
  obtain ⟨hlt, hk⟩ := (s.isMemory_iff pa).1 h
  unfold State.physRead
  rw [busTarget_external hlt]
  unfold State.readTarget State.readExternal
  rw [State.elapse_platform]
  cases hb : busKind s.platform pa.toNat with
  | ram => rfl
  | rom => rfl
  | device => exact absurd hb hk

theorem State.memRead_memory (s : State) (la : Word) (h : s.isMemory (s.translate la) = true) :
    s.memRead la = (s.peek (s.translate la), s.elapse) :=
  s.physRead_memory _ h

/-- What an access sees of the registers is the mapping registers alone: a state with the same
memory, platform, mapping and block $FF answers the same. -/
theorem State.physRead_congr (s t : State) (pa : PhysAddr) (hmem : t.mem = s.mem)
    (hplat : t.platform = s.platform) (hio : t.io = s.io) :
    (t.physRead pa).1 = (s.physRead pa).1 ∧ (t.physRead pa).2.io = (s.physRead pa).2.io := by
  unfold State.physRead
  cases busTarget pa with
  | external =>
    simp only [State.readTarget, State.readExternal, State.elapse_platform, hplat]
    cases busKind s.platform pa.toNat <;> simp [State.deviceRead, hmem, hio]
  | huc6270 => simp [State.readTarget, State.deviceRead, hio]
  | huc6260 => simp [State.readTarget, State.deviceRead, hio]
  | psg => simp [State.readTarget, State.undecodedRead, hio]
  | timerCounter => simp [State.readTarget, State.fieldRead, hio]
  | timerControl => simp [State.readTarget, State.undecodedRead, hio]
  | port => simp [State.readTarget, hio]
  | idr => simp [State.readTarget, State.fieldRead, hio]
  | irr => simp [State.readTarget, State.fieldRead, hio]
  | undecoded => simp [State.readTarget, State.undecodedRead, hio]

theorem State.memRead_congr (s t : State) (la : Word) (hmem : t.mem = s.mem)
    (hplat : t.platform = s.platform) (hmpr : t.mpr = s.mpr) (hio : t.io = s.io) :
    (t.memRead la).1 = (s.memRead la).1 ∧ (t.memRead la).2.io = (s.memRead la).2.io := by
  unfold State.memRead
  rw [show t.translate la = s.translate la by simp [State.translate, hmpr]]
  exact s.physRead_congr t _ hmem hplat hio

/-! Writes. -/

/-- A write changes memory, and block $FF, the interrupt circuit and the environment; no register. -/
theorem State.physWrite_eq (s : State) (pa : PhysAddr) (v : Byte) :
    s.physWrite pa v =
      { s with mem := (s.physWrite pa v).mem, io := (s.physWrite pa v).io } := by
  unfold State.physWrite
  cases busTarget pa with
  | external =>
    unfold State.writeTarget State.writeExternal
    cases busKind s.elapse.platform pa.toNat <;> rfl
  | huc6270 => rfl
  | huc6260 => rfl
  | psg => rfl
  | timerCounter => rfl
  | timerControl => rfl
  | port => rfl
  | idr => rfl
  | irr => rfl
  | undecoded => rfl

/-- The memory after a write: the byte is written where RAM answers, and nowhere else. -/
theorem State.physWrite_mem (s : State) (pa : PhysAddr) (v : Byte) :
    (s.physWrite pa v).mem = if s.isRam pa then s.mem.write pa.toNat v else s.mem := by
  unfold State.physWrite State.isRam
  by_cases hff : pa.toNat < blockFFBase
  · rw [busTarget_external hff]
    unfold State.writeTarget State.writeExternal
    rw [State.elapse_platform]
    simp only [hff, decide_true, Bool.true_and]
    cases busKind s.platform pa.toNat <;> rfl
  · simp only [hff, decide_false, Bool.false_and, Bool.false_eq_true, if_false]
    cases h : busTarget pa with
    | external => exact absurd h (busTarget_ne_external hff)
    | huc6270 => rfl
    | huc6260 => rfl
    | psg => rfl
    | timerCounter => rfl
    | timerControl => rfl
    | port => rfl
    | idr => rfl
    | irr => rfl
    | undecoded => rfl

theorem State.memWrite_eq (s : State) (la : Word) (v : Byte) :
    s.memWrite la v = { s with mem := (s.memWrite la v).mem, io := (s.memWrite la v).io } :=
  s.physWrite_eq _ v

theorem State.memWrite_mem (s : State) (la : Word) (v : Byte) :
    (s.memWrite la v).mem =
      if s.isRam (s.translate la) then s.mem.write (s.translate la).toNat v else s.mem :=
  s.physWrite_mem _ v

@[simp] theorem State.physWrite_a (s : State) (pa : PhysAddr) (v : Byte) :
    (s.physWrite pa v).a = s.a := by
  rw [s.physWrite_eq pa v]

@[simp] theorem State.physWrite_x (s : State) (pa : PhysAddr) (v : Byte) :
    (s.physWrite pa v).x = s.x := by
  rw [s.physWrite_eq pa v]

@[simp] theorem State.physWrite_y (s : State) (pa : PhysAddr) (v : Byte) :
    (s.physWrite pa v).y = s.y := by
  rw [s.physWrite_eq pa v]

@[simp] theorem State.physWrite_sp (s : State) (pa : PhysAddr) (v : Byte) :
    (s.physWrite pa v).sp = s.sp := by
  rw [s.physWrite_eq pa v]

@[simp] theorem State.physWrite_pc (s : State) (pa : PhysAddr) (v : Byte) :
    (s.physWrite pa v).pc = s.pc := by
  rw [s.physWrite_eq pa v]

@[simp] theorem State.physWrite_p (s : State) (pa : PhysAddr) (v : Byte) :
    (s.physWrite pa v).p = s.p := by
  rw [s.physWrite_eq pa v]

@[simp] theorem State.physWrite_sh (s : State) (pa : PhysAddr) (v : Byte) :
    (s.physWrite pa v).sh = s.sh := by
  rw [s.physWrite_eq pa v]

@[simp] theorem State.physWrite_dh (s : State) (pa : PhysAddr) (v : Byte) :
    (s.physWrite pa v).dh = s.dh := by
  rw [s.physWrite_eq pa v]

@[simp] theorem State.physWrite_lh (s : State) (pa : PhysAddr) (v : Byte) :
    (s.physWrite pa v).lh = s.lh := by
  rw [s.physWrite_eq pa v]

@[simp] theorem State.physWrite_mpr (s : State) (pa : PhysAddr) (v : Byte) :
    (s.physWrite pa v).mpr = s.mpr := by
  rw [s.physWrite_eq pa v]

@[simp] theorem State.physWrite_mprLatch (s : State) (pa : PhysAddr) (v : Byte) :
    (s.physWrite pa v).mprLatch = s.mprLatch := by
  rw [s.physWrite_eq pa v]

@[simp] theorem State.physWrite_speed (s : State) (pa : PhysAddr) (v : Byte) :
    (s.physWrite pa v).speed = s.speed := by
  rw [s.physWrite_eq pa v]

@[simp] theorem State.physWrite_intSel (s : State) (pa : PhysAddr) (v : Byte) :
    (s.physWrite pa v).intSel = s.intSel := by
  rw [s.physWrite_eq pa v]

@[simp] theorem State.physWrite_platform (s : State) (pa : PhysAddr) (v : Byte) :
    (s.physWrite pa v).platform = s.platform := by
  rw [s.physWrite_eq pa v]

@[simp] theorem State.memWrite_a (s : State) (la : Word) (v : Byte) :
    (s.memWrite la v).a = s.a :=
  s.physWrite_a _ v

@[simp] theorem State.memWrite_x (s : State) (la : Word) (v : Byte) :
    (s.memWrite la v).x = s.x :=
  s.physWrite_x _ v

@[simp] theorem State.memWrite_y (s : State) (la : Word) (v : Byte) :
    (s.memWrite la v).y = s.y :=
  s.physWrite_y _ v

@[simp] theorem State.memWrite_sp (s : State) (la : Word) (v : Byte) :
    (s.memWrite la v).sp = s.sp :=
  s.physWrite_sp _ v

@[simp] theorem State.memWrite_pc (s : State) (la : Word) (v : Byte) :
    (s.memWrite la v).pc = s.pc :=
  s.physWrite_pc _ v

@[simp] theorem State.memWrite_p (s : State) (la : Word) (v : Byte) :
    (s.memWrite la v).p = s.p :=
  s.physWrite_p _ v

@[simp] theorem State.memWrite_sh (s : State) (la : Word) (v : Byte) :
    (s.memWrite la v).sh = s.sh :=
  s.physWrite_sh _ v

@[simp] theorem State.memWrite_dh (s : State) (la : Word) (v : Byte) :
    (s.memWrite la v).dh = s.dh :=
  s.physWrite_dh _ v

@[simp] theorem State.memWrite_lh (s : State) (la : Word) (v : Byte) :
    (s.memWrite la v).lh = s.lh :=
  s.physWrite_lh _ v

@[simp] theorem State.memWrite_mpr (s : State) (la : Word) (v : Byte) :
    (s.memWrite la v).mpr = s.mpr :=
  s.physWrite_mpr _ v

@[simp] theorem State.memWrite_mprLatch (s : State) (la : Word) (v : Byte) :
    (s.memWrite la v).mprLatch = s.mprLatch :=
  s.physWrite_mprLatch _ v

@[simp] theorem State.memWrite_speed (s : State) (la : Word) (v : Byte) :
    (s.memWrite la v).speed = s.speed :=
  s.physWrite_speed _ v

@[simp] theorem State.memWrite_intSel (s : State) (la : Word) (v : Byte) :
    (s.memWrite la v).intSel = s.intSel :=
  s.physWrite_intSel _ v

@[simp] theorem State.memWrite_platform (s : State) (la : Word) (v : Byte) :
    (s.memWrite la v).platform = s.platform :=
  s.physWrite_platform _ v

/-- What a write does to block $FF does not depend on the registers or on memory. -/
theorem State.physWrite_congr (s t : State) (pa : PhysAddr) (v : Byte)
    (hplat : t.platform = s.platform) (hio : t.io = s.io) :
    (t.physWrite pa v).io = (s.physWrite pa v).io := by
  unfold State.physWrite
  cases busTarget pa with
  | external =>
    simp only [State.writeTarget, State.writeExternal, State.elapse_platform, hplat]
    cases busKind s.platform pa.toNat <;> simp [hio]
  | huc6270 => simp [State.writeTarget, hio]
  | huc6260 => simp [State.writeTarget, hio]
  | psg => simp [State.writeTarget, hio]
  | timerCounter => simp [State.writeTarget, hio]
  | timerControl => simp [State.writeTarget, hio]
  | port => simp [State.writeTarget, hio]
  | idr => simp [State.writeTarget, hio]
  | irr => simp [State.writeTarget, hio]
  | undecoded => simp [State.writeTarget, hio]

theorem State.isRam_congr {s t : State} (h : t.platform = s.platform) (pa : PhysAddr) :
    t.isRam pa = s.isRam pa := by
  simp [State.isRam, h]

theorem State.isMemory_congr {s t : State} (h : t.platform = s.platform) (pa : PhysAddr) :
    t.isMemory pa = s.isMemory pa := by
  simp [State.isMemory, h]

theorem State.peek_congr {s t : State} (h : t.mem = s.mem) (pa : PhysAddr) : t.peek pa = s.peek pa := by
  simp [State.peek, h]

theorem State.translate_congr {s t : State} (h : t.mpr = s.mpr) (la : Word) :
    t.translate la = s.translate la := by
  simp [State.translate, h]

/-- RAM is memory. -/
theorem State.isMemory_of_isRam {s : State} {pa : PhysAddr} (h : s.isRam pa = true) :
    s.isMemory pa = true := by
  obtain ⟨hlt, hk⟩ := (s.isRam_iff pa).1 h
  exact (s.isMemory_iff pa).2 ⟨hlt, by simp [hk]⟩

/-- A write leaves every other byte of memory alone. -/
theorem State.peek_physWrite_ne (s : State) {pa q : PhysAddr} (v : Byte) (h : q ≠ pa) :
    (s.physWrite pa v).peek q = s.peek q := by
  unfold State.peek
  rw [State.physWrite_mem]
  split
  · exact Memory.read_write_ne _ _ fun e => h (BitVec.eq_of_toNat_eq e.symm)
  · rfl

/-- A write where RAM answers: the byte is there afterwards. -/
theorem State.peek_physWrite_self (s : State) (hwf : s.mem.wf = true) {pa : PhysAddr} (v : Byte)
    (h : s.isRam pa = true) : (s.physWrite pa v).peek pa = v := by
  unfold State.peek
  rw [State.physWrite_mem, if_pos h, Memory.read_write _ hwf, if_pos rfl]

/-- A write where no RAM answers changes no byte of memory. -/
theorem State.physWrite_mem_of_not_ram (s : State) {pa : PhysAddr} (v : Byte)
    (h : s.isRam pa = false) : (s.physWrite pa v).mem = s.mem := by
  rw [State.physWrite_mem, h]; rfl

theorem State.peek_memWrite_ne (s : State) {la : Word} {q : PhysAddr} (v : Byte)
    (h : q ≠ s.translate la) : (s.memWrite la v).peek q = s.peek q :=
  s.peek_physWrite_ne v h

theorem State.peek_memWrite_self (s : State) (hwf : s.mem.wf = true) {la : Word} (v : Byte)
    (h : s.isRam (s.translate la) = true) : (s.memWrite la v).peek (s.translate la) = v :=
  s.peek_physWrite_self hwf v h

/-- Every write keeps the memory's canonical form. -/
theorem State.physWrite_wf (s : State) (pa : PhysAddr) (v : Byte) (h : s.mem.wf = true) :
    (s.physWrite pa v).mem.wf = true := by
  rw [State.physWrite_mem]
  split
  · exact Memory.write_wf h _ _
  · exact h

/-- Every write keeps the listed addresses below block $FF. -/
theorem State.physWrite_below (s : State) (pa : PhysAddr) (v : Byte)
    (h : s.mem.below blockFFBase = true) : (s.physWrite pa v).mem.below blockFFBase = true := by
  rw [State.physWrite_mem]
  split
  · next hr =>
    exact Memory.write_below h ((s.isRam_iff pa).1 hr).1 v
  · exact h

/-! The environment. -/

/-- With nothing left to happen, the timer stopped and no mark, the environment does nothing. -/
theorem State.elapse_quiet (s : State) (hs : s.io.schedule = []) (ht : s.io.timer.start = false)
    (hg : s.io.glitch = false) : s.elapse = s := by
  have hio : s.io.elapse = s.io := by
    unfold Io.elapse
    simp only [hs, Io.idleClock, ht, Bool.false_eq_true, if_false]
    rw [← hs, ← hg]
  unfold State.elapse
  rw [hio]

/-- A timer tick leaves the pins, the port, the disable bits and the reset latch alone. -/
@[simp] theorem Io.tick_idr (io : Io) : io.tick.idr = io.idr := by
  unfold Io.tick; split <;> rfl

@[simp] theorem Io.tick_pins (io : Io) : io.tick.pins = io.pins := by
  unfold Io.tick; split <;> rfl

@[simp] theorem Io.tick_portO (io : Io) : io.tick.portO = io.portO := by
  unfold Io.tick; split <;> rfl

@[simp] theorem Io.tick_nmiPending (io : Io) : io.tick.nmiPending = io.nmiPending := by
  unfold Io.tick; split <;> rfl

@[simp] theorem Io.tick_resetPending (io : Io) : io.tick.resetPending = io.resetPending := by
  unfold Io.tick; split <;> rfl

@[simp] theorem Io.tick_start (io : Io) : io.tick.timer.start = io.timer.start := by
  unfold Io.tick; split <;> rfl

@[simp] theorem Io.tick_reload (io : Io) : io.tick.timer.reload = io.timer.reload := by
  unfold Io.tick; split <;> rfl

theorem Io.counted_trans {io u v : Io}
    (h1 : u = { io with tiq := u.tiq, timer := { io.timer with counter := u.timer.counter } })
    (h2 : v = { u with tiq := v.tiq, timer := { u.timer with counter := v.timer.counter } }) :
    v = { io with tiq := v.tiq, timer := { io.timer with counter := v.timer.counter } } :=
  h2.trans (by rw [h1])

/-- Ticks change TIQ and the counter. -/
theorem Io.ticks_eq (n : Nat) (io : Io) :
    Io.ticks n io = { io with
      tiq := (Io.ticks n io).tiq
      timer := { io.timer with counter := (Io.ticks n io).timer.counter } } := by
  induction n generalizing io with
  | zero => rfl
  | succ n ih =>
    refine Io.counted_trans ?_ (ih io.tick)
    unfold Io.tick
    split <;> rfl

/-- Periods of the clock change TIQ, the counter and the prescaler. -/
theorem Io.clock_eq (n : Nat) (io : Io) :
    io.clock n = { io with
      tiq := (io.clock n).tiq
      timer := { io.timer with
        counter := (io.clock n).timer.counter, prescaler := (io.clock n).timer.prescaler } } := by
  unfold Io.clock
  split
  · simp only []
    rw [Io.ticks_eq]
  · rfl

/-- What the clock does once the schedule has ended. -/
theorem Io.idleClock_eq (io : Io) :
    io.idleClock = { io with
      tiq := io.idleClock.tiq
      timer := { io.timer with
        counter := io.idleClock.timer.counter, prescaler := io.idleClock.timer.prescaler }
      clockWait := io.idleClock.clockWait, glitch := io.idleClock.glitch
      freeCount := io.idleClock.freeCount } := by
  unfold Io.idleClock
  split
  · split
    · simp only []
      rw [Io.clock_eq]
    · rfl
  · rfl

/-- A stopped timer's clock does not run on. -/
theorem Io.idleClock_stopped {io : Io} (h : io.timer.start = false) : io.idleClock = io := by
  simp [Io.idleClock, h]

end Sys2Proof.Machine
end

