-- ==== Sys2Proof/Laws/Exec.lean ====
section
/-!
SUPPORT. What `exec` answers for each instruction, as a shared operation on the state: one lemma per
constructor, true by `rfl`, so that a proof over all instructions rewrites with these and cites the laws
of the shared operations.
-/

namespace Sys2Proof.Machine

variable (s : State)

@[simp] theorem exec_adcImm (nn : Byte) :
    exec (.adcImm nn) s = .next (s.aluT adcOp (.imm nn)) := rfl
@[simp] theorem exec_adcZp (zz : Byte) :
    exec (.adcZp zz) s = .next (s.aluT adcOp (.mem (.zp zz))) := rfl
@[simp] theorem exec_adcZpX (zz : Byte) :
    exec (.adcZpX zz) s = .next (s.aluT adcOp (.mem (.zpX zz))) := rfl
@[simp] theorem exec_adcInd (zz : Byte) :
    exec (.adcInd zz) s = .next (s.aluT adcOp (.mem (.ind zz))) := rfl
@[simp] theorem exec_adcIndX (zz : Byte) :
    exec (.adcIndX zz) s = .next (s.aluT adcOp (.mem (.indX zz))) := rfl
@[simp] theorem exec_adcIndY (zz : Byte) :
    exec (.adcIndY zz) s = .next (s.aluT adcOp (.mem (.indY zz))) := rfl
@[simp] theorem exec_adcAbs (hhll : Word) :
    exec (.adcAbs hhll) s = .next (s.aluT adcOp (.mem (.abs hhll))) := rfl
@[simp] theorem exec_adcAbsX (hhll : Word) :
    exec (.adcAbsX hhll) s = .next (s.aluT adcOp (.mem (.absX hhll))) := rfl
@[simp] theorem exec_adcAbsY (hhll : Word) :
    exec (.adcAbsY hhll) s = .next (s.aluT adcOp (.mem (.absY hhll))) := rfl
@[simp] theorem exec_andImm (nn : Byte) :
    exec (.andImm nn) s = .next (s.aluT andOp (.imm nn)) := rfl
@[simp] theorem exec_andZp (zz : Byte) :
    exec (.andZp zz) s = .next (s.aluT andOp (.mem (.zp zz))) := rfl
@[simp] theorem exec_andZpX (zz : Byte) :
    exec (.andZpX zz) s = .next (s.aluT andOp (.mem (.zpX zz))) := rfl
@[simp] theorem exec_andInd (zz : Byte) :
    exec (.andInd zz) s = .next (s.aluT andOp (.mem (.ind zz))) := rfl
@[simp] theorem exec_andIndX (zz : Byte) :
    exec (.andIndX zz) s = .next (s.aluT andOp (.mem (.indX zz))) := rfl
@[simp] theorem exec_andIndY (zz : Byte) :
    exec (.andIndY zz) s = .next (s.aluT andOp (.mem (.indY zz))) := rfl
@[simp] theorem exec_andAbs (hhll : Word) :
    exec (.andAbs hhll) s = .next (s.aluT andOp (.mem (.abs hhll))) := rfl
@[simp] theorem exec_andAbsX (hhll : Word) :
    exec (.andAbsX hhll) s = .next (s.aluT andOp (.mem (.absX hhll))) := rfl
@[simp] theorem exec_andAbsY (hhll : Word) :
    exec (.andAbsY hhll) s = .next (s.aluT andOp (.mem (.absY hhll))) := rfl
@[simp] theorem exec_cmpImm (nn : Byte) :
    exec (.cmpImm nn) s = .next (s.withOperand (.imm nn) fun s m => s.compareWith s.a m) := rfl
@[simp] theorem exec_cmpZp (zz : Byte) :
    exec (.cmpZp zz) s = .next (s.withOperand (.mem (.zp zz)) fun s m => s.compareWith s.a m) := rfl
@[simp] theorem exec_cmpZpX (zz : Byte) :
    exec (.cmpZpX zz) s =
      .next (s.withOperand (.mem (.zpX zz)) fun s m => s.compareWith s.a m) := rfl
@[simp] theorem exec_cmpInd (zz : Byte) :
    exec (.cmpInd zz) s =
      .next (s.withOperand (.mem (.ind zz)) fun s m => s.compareWith s.a m) := rfl
@[simp] theorem exec_cmpIndX (zz : Byte) :
    exec (.cmpIndX zz) s =
      .next (s.withOperand (.mem (.indX zz)) fun s m => s.compareWith s.a m) := rfl
@[simp] theorem exec_cmpIndY (zz : Byte) :
    exec (.cmpIndY zz) s =
      .next (s.withOperand (.mem (.indY zz)) fun s m => s.compareWith s.a m) := rfl
@[simp] theorem exec_cmpAbs (hhll : Word) :
    exec (.cmpAbs hhll) s =
      .next (s.withOperand (.mem (.abs hhll)) fun s m => s.compareWith s.a m) := rfl
@[simp] theorem exec_cmpAbsX (hhll : Word) :
    exec (.cmpAbsX hhll) s =
      .next (s.withOperand (.mem (.absX hhll)) fun s m => s.compareWith s.a m) := rfl
@[simp] theorem exec_cmpAbsY (hhll : Word) :
    exec (.cmpAbsY hhll) s =
      .next (s.withOperand (.mem (.absY hhll)) fun s m => s.compareWith s.a m) := rfl
@[simp] theorem exec_cpxImm (nn : Byte) :
    exec (.cpxImm nn) s = .next (s.withOperand (.imm nn) fun s m => s.compareWith s.x m) := rfl
@[simp] theorem exec_cpxZp (zz : Byte) :
    exec (.cpxZp zz) s = .next (s.withOperand (.mem (.zp zz)) fun s m => s.compareWith s.x m) := rfl
@[simp] theorem exec_cpxAbs (hhll : Word) :
    exec (.cpxAbs hhll) s =
      .next (s.withOperand (.mem (.abs hhll)) fun s m => s.compareWith s.x m) := rfl
@[simp] theorem exec_cpyImm (nn : Byte) :
    exec (.cpyImm nn) s = .next (s.withOperand (.imm nn) fun s m => s.compareWith s.y m) := rfl
@[simp] theorem exec_cpyZp (zz : Byte) :
    exec (.cpyZp zz) s = .next (s.withOperand (.mem (.zp zz)) fun s m => s.compareWith s.y m) := rfl
@[simp] theorem exec_cpyAbs (hhll : Word) :
    exec (.cpyAbs hhll) s =
      .next (s.withOperand (.mem (.abs hhll)) fun s m => s.compareWith s.y m) := rfl
@[simp] theorem exec_eorImm (nn : Byte) :
    exec (.eorImm nn) s = .next (s.aluT eorOp (.imm nn)) := rfl
@[simp] theorem exec_eorZp (zz : Byte) :
    exec (.eorZp zz) s = .next (s.aluT eorOp (.mem (.zp zz))) := rfl
@[simp] theorem exec_eorZpX (zz : Byte) :
    exec (.eorZpX zz) s = .next (s.aluT eorOp (.mem (.zpX zz))) := rfl
@[simp] theorem exec_eorInd (zz : Byte) :
    exec (.eorInd zz) s = .next (s.aluT eorOp (.mem (.ind zz))) := rfl
@[simp] theorem exec_eorIndX (zz : Byte) :
    exec (.eorIndX zz) s = .next (s.aluT eorOp (.mem (.indX zz))) := rfl
@[simp] theorem exec_eorIndY (zz : Byte) :
    exec (.eorIndY zz) s = .next (s.aluT eorOp (.mem (.indY zz))) := rfl
@[simp] theorem exec_eorAbs (hhll : Word) :
    exec (.eorAbs hhll) s = .next (s.aluT eorOp (.mem (.abs hhll))) := rfl
@[simp] theorem exec_eorAbsX (hhll : Word) :
    exec (.eorAbsX hhll) s = .next (s.aluT eorOp (.mem (.absX hhll))) := rfl
@[simp] theorem exec_eorAbsY (hhll : Word) :
    exec (.eorAbsY hhll) s = .next (s.aluT eorOp (.mem (.absY hhll))) := rfl
@[simp] theorem exec_oraImm (nn : Byte) :
    exec (.oraImm nn) s = .next (s.aluT oraOp (.imm nn)) := rfl
@[simp] theorem exec_oraZp (zz : Byte) :
    exec (.oraZp zz) s = .next (s.aluT oraOp (.mem (.zp zz))) := rfl
@[simp] theorem exec_oraZpX (zz : Byte) :
    exec (.oraZpX zz) s = .next (s.aluT oraOp (.mem (.zpX zz))) := rfl
@[simp] theorem exec_oraInd (zz : Byte) :
    exec (.oraInd zz) s = .next (s.aluT oraOp (.mem (.ind zz))) := rfl
@[simp] theorem exec_oraIndX (zz : Byte) :
    exec (.oraIndX zz) s = .next (s.aluT oraOp (.mem (.indX zz))) := rfl
@[simp] theorem exec_oraIndY (zz : Byte) :
    exec (.oraIndY zz) s = .next (s.aluT oraOp (.mem (.indY zz))) := rfl
@[simp] theorem exec_oraAbs (hhll : Word) :
    exec (.oraAbs hhll) s = .next (s.aluT oraOp (.mem (.abs hhll))) := rfl
@[simp] theorem exec_oraAbsX (hhll : Word) :
    exec (.oraAbsX hhll) s = .next (s.aluT oraOp (.mem (.absX hhll))) := rfl
@[simp] theorem exec_oraAbsY (hhll : Word) :
    exec (.oraAbsY hhll) s = .next (s.aluT oraOp (.mem (.absY hhll))) := rfl
@[simp] theorem exec_sbcImm (nn : Byte) :
    exec (.sbcImm nn) s = .next (s.withOperand (.imm nn) State.subtractFromA) := rfl
@[simp] theorem exec_sbcZp (zz : Byte) :
    exec (.sbcZp zz) s = .next (s.withOperand (.mem (.zp zz)) State.subtractFromA) := rfl
@[simp] theorem exec_sbcZpX (zz : Byte) :
    exec (.sbcZpX zz) s = .next (s.withOperand (.mem (.zpX zz)) State.subtractFromA) := rfl
@[simp] theorem exec_sbcInd (zz : Byte) :
    exec (.sbcInd zz) s = .next (s.withOperand (.mem (.ind zz)) State.subtractFromA) := rfl
@[simp] theorem exec_sbcIndX (zz : Byte) :
    exec (.sbcIndX zz) s = .next (s.withOperand (.mem (.indX zz)) State.subtractFromA) := rfl
@[simp] theorem exec_sbcIndY (zz : Byte) :
    exec (.sbcIndY zz) s = .next (s.withOperand (.mem (.indY zz)) State.subtractFromA) := rfl
@[simp] theorem exec_sbcAbs (hhll : Word) :
    exec (.sbcAbs hhll) s = .next (s.withOperand (.mem (.abs hhll)) State.subtractFromA) := rfl
@[simp] theorem exec_sbcAbsX (hhll : Word) :
    exec (.sbcAbsX hhll) s = .next (s.withOperand (.mem (.absX hhll)) State.subtractFromA) := rfl
@[simp] theorem exec_sbcAbsY (hhll : Word) :
    exec (.sbcAbsY hhll) s = .next (s.withOperand (.mem (.absY hhll)) State.subtractFromA) := rfl
@[simp] theorem exec_aslAcc : exec .aslAcc s = .next (s.rmwA aslOp) := rfl
@[simp] theorem exec_aslZp (zz : Byte) : exec (.aslZp zz) s = .next (s.rmw aslOp (.zp zz)) := rfl
@[simp] theorem exec_aslZpX (zz : Byte) : exec (.aslZpX zz) s = .next (s.rmw aslOp (.zpX zz)) := rfl
@[simp] theorem exec_aslAbs (hhll : Word) :
    exec (.aslAbs hhll) s = .next (s.rmw aslOp (.abs hhll)) := rfl
@[simp] theorem exec_aslAbsX (hhll : Word) :
    exec (.aslAbsX hhll) s = .next (s.rmw aslOp (.absX hhll)) := rfl
@[simp] theorem exec_lsrAcc : exec .lsrAcc s = .next (s.rmwA lsrOp) := rfl
@[simp] theorem exec_lsrZp (zz : Byte) : exec (.lsrZp zz) s = .next (s.rmw lsrOp (.zp zz)) := rfl
@[simp] theorem exec_lsrZpX (zz : Byte) : exec (.lsrZpX zz) s = .next (s.rmw lsrOp (.zpX zz)) := rfl
@[simp] theorem exec_lsrAbs (hhll : Word) :
    exec (.lsrAbs hhll) s = .next (s.rmw lsrOp (.abs hhll)) := rfl
@[simp] theorem exec_lsrAbsX (hhll : Word) :
    exec (.lsrAbsX hhll) s = .next (s.rmw lsrOp (.absX hhll)) := rfl
@[simp] theorem exec_rolAcc : exec .rolAcc s = .next (s.rmwA rolOp) := rfl
@[simp] theorem exec_rolZp (zz : Byte) : exec (.rolZp zz) s = .next (s.rmw rolOp (.zp zz)) := rfl
@[simp] theorem exec_rolZpX (zz : Byte) : exec (.rolZpX zz) s = .next (s.rmw rolOp (.zpX zz)) := rfl
@[simp] theorem exec_rolAbs (hhll : Word) :
    exec (.rolAbs hhll) s = .next (s.rmw rolOp (.abs hhll)) := rfl
@[simp] theorem exec_rolAbsX (hhll : Word) :
    exec (.rolAbsX hhll) s = .next (s.rmw rolOp (.absX hhll)) := rfl
@[simp] theorem exec_rorAcc : exec .rorAcc s = .next (s.rmwA rorOp) := rfl
@[simp] theorem exec_rorZp (zz : Byte) : exec (.rorZp zz) s = .next (s.rmw rorOp (.zp zz)) := rfl
@[simp] theorem exec_rorZpX (zz : Byte) : exec (.rorZpX zz) s = .next (s.rmw rorOp (.zpX zz)) := rfl
@[simp] theorem exec_rorAbs (hhll : Word) :
    exec (.rorAbs hhll) s = .next (s.rmw rorOp (.abs hhll)) := rfl
@[simp] theorem exec_rorAbsX (hhll : Word) :
    exec (.rorAbsX hhll) s = .next (s.rmw rorOp (.absX hhll)) := rfl
@[simp] theorem exec_incAcc : exec .incAcc s = .next (s.rmwA incOp) := rfl
@[simp] theorem exec_incZp (zz : Byte) : exec (.incZp zz) s = .next (s.rmw incOp (.zp zz)) := rfl
@[simp] theorem exec_incZpX (zz : Byte) : exec (.incZpX zz) s = .next (s.rmw incOp (.zpX zz)) := rfl
@[simp] theorem exec_incAbs (hhll : Word) :
    exec (.incAbs hhll) s = .next (s.rmw incOp (.abs hhll)) := rfl
@[simp] theorem exec_incAbsX (hhll : Word) :
    exec (.incAbsX hhll) s = .next (s.rmw incOp (.absX hhll)) := rfl
@[simp] theorem exec_decAcc : exec .decAcc s = .next (s.rmwA decOp) := rfl
@[simp] theorem exec_decZp (zz : Byte) : exec (.decZp zz) s = .next (s.rmw decOp (.zp zz)) := rfl
@[simp] theorem exec_decZpX (zz : Byte) : exec (.decZpX zz) s = .next (s.rmw decOp (.zpX zz)) := rfl
@[simp] theorem exec_decAbs (hhll : Word) :
    exec (.decAbs hhll) s = .next (s.rmw decOp (.abs hhll)) := rfl
@[simp] theorem exec_decAbsX (hhll : Word) :
    exec (.decAbsX hhll) s = .next (s.rmw decOp (.absX hhll)) := rfl
@[simp] theorem exec_inx : exec .inx s = .next (s.implied fun s => s.countX incOp) := rfl
@[simp] theorem exec_iny : exec .iny s = .next (s.implied fun s => s.countY incOp) := rfl
@[simp] theorem exec_dex : exec .dex s = .next (s.implied fun s => s.countX decOp) := rfl
@[simp] theorem exec_dey : exec .dey s = .next (s.implied fun s => s.countY decOp) := rfl
@[simp] theorem exec_cla : exec .cla s = .next (s.implied fun s => s.setA 0) := rfl
@[simp] theorem exec_clx : exec .clx s = .next (s.implied fun s => s.setX 0) := rfl
@[simp] theorem exec_cly : exec .cly s = .next (s.implied fun s => s.setY 0) := rfl
@[simp] theorem exec_clc :
    exec .clc s = .next (s.implied fun s => s.setP { s.p with c := false }) := rfl
@[simp] theorem exec_cld :
    exec .cld s = .next (s.implied fun s => s.setP { s.p with d := false }) := rfl
@[simp] theorem exec_cli :
    exec .cli s = .next (s.implied fun s => s.setP { s.p with i := false }) := rfl
@[simp] theorem exec_clv :
    exec .clv s = .next (s.implied fun s => s.setP { s.p with v := false }) := rfl
@[simp] theorem exec_sec :
    exec .sec s = .next (s.implied fun s => s.setP { s.p with c := true }) := rfl
@[simp] theorem exec_sed :
    exec .sed s = .next (s.implied fun s => s.setP { s.p with d := true }) := rfl
@[simp] theorem exec_sei :
    exec .sei s = .next (s.implied fun s => s.setP { s.p with i := true }) := rfl
@[simp] theorem exec_setT :
    exec .setT s = .next (s.implied fun s => s.setP { s.p with t := true }) := rfl
@[simp] theorem exec_ldaImm (nn : Byte) :
    exec (.ldaImm nn) s = .next (s.withOperand (.imm nn) State.loadA) := rfl
@[simp] theorem exec_ldaZp (zz : Byte) :
    exec (.ldaZp zz) s = .next (s.withOperand (.mem (.zp zz)) State.loadA) := rfl
@[simp] theorem exec_ldaZpX (zz : Byte) :
    exec (.ldaZpX zz) s = .next (s.withOperand (.mem (.zpX zz)) State.loadA) := rfl
@[simp] theorem exec_ldaInd (zz : Byte) :
    exec (.ldaInd zz) s = .next (s.withOperand (.mem (.ind zz)) State.loadA) := rfl
@[simp] theorem exec_ldaIndX (zz : Byte) :
    exec (.ldaIndX zz) s = .next (s.withOperand (.mem (.indX zz)) State.loadA) := rfl
@[simp] theorem exec_ldaIndY (zz : Byte) :
    exec (.ldaIndY zz) s = .next (s.withOperand (.mem (.indY zz)) State.loadA) := rfl
@[simp] theorem exec_ldaAbs (hhll : Word) :
    exec (.ldaAbs hhll) s = .next (s.withOperand (.mem (.abs hhll)) State.loadA) := rfl
@[simp] theorem exec_ldaAbsX (hhll : Word) :
    exec (.ldaAbsX hhll) s = .next (s.withOperand (.mem (.absX hhll)) State.loadA) := rfl
@[simp] theorem exec_ldaAbsY (hhll : Word) :
    exec (.ldaAbsY hhll) s = .next (s.withOperand (.mem (.absY hhll)) State.loadA) := rfl
@[simp] theorem exec_ldxImm (nn : Byte) :
    exec (.ldxImm nn) s = .next (s.withOperand (.imm nn) State.loadX) := rfl
@[simp] theorem exec_ldxZp (zz : Byte) :
    exec (.ldxZp zz) s = .next (s.withOperand (.mem (.zp zz)) State.loadX) := rfl
@[simp] theorem exec_ldxZpY (zz : Byte) :
    exec (.ldxZpY zz) s = .next (s.withOperand (.mem (.zpY zz)) State.loadX) := rfl
@[simp] theorem exec_ldxAbs (hhll : Word) :
    exec (.ldxAbs hhll) s = .next (s.withOperand (.mem (.abs hhll)) State.loadX) := rfl
@[simp] theorem exec_ldxAbsY (hhll : Word) :
    exec (.ldxAbsY hhll) s = .next (s.withOperand (.mem (.absY hhll)) State.loadX) := rfl
@[simp] theorem exec_ldyImm (nn : Byte) :
    exec (.ldyImm nn) s = .next (s.withOperand (.imm nn) State.loadY) := rfl
@[simp] theorem exec_ldyZp (zz : Byte) :
    exec (.ldyZp zz) s = .next (s.withOperand (.mem (.zp zz)) State.loadY) := rfl
@[simp] theorem exec_ldyZpX (zz : Byte) :
    exec (.ldyZpX zz) s = .next (s.withOperand (.mem (.zpX zz)) State.loadY) := rfl
@[simp] theorem exec_ldyAbs (hhll : Word) :
    exec (.ldyAbs hhll) s = .next (s.withOperand (.mem (.abs hhll)) State.loadY) := rfl
@[simp] theorem exec_ldyAbsX (hhll : Word) :
    exec (.ldyAbsX hhll) s = .next (s.withOperand (.mem (.absX hhll)) State.loadY) := rfl
@[simp] theorem exec_staZp (zz : Byte) : exec (.staZp zz) s = .next (s.storeTo (.zp zz) s.a) := rfl
@[simp] theorem exec_staZpX (zz : Byte) :
    exec (.staZpX zz) s = .next (s.storeTo (.zpX zz) s.a) := rfl
@[simp] theorem exec_staInd (zz : Byte) :
    exec (.staInd zz) s = .next (s.storeTo (.ind zz) s.a) := rfl
@[simp] theorem exec_staIndX (zz : Byte) :
    exec (.staIndX zz) s = .next (s.storeTo (.indX zz) s.a) := rfl
@[simp] theorem exec_staIndY (zz : Byte) :
    exec (.staIndY zz) s = .next (s.storeTo (.indY zz) s.a) := rfl
@[simp] theorem exec_staAbs (hhll : Word) :
    exec (.staAbs hhll) s = .next (s.storeTo (.abs hhll) s.a) := rfl
@[simp] theorem exec_staAbsX (hhll : Word) :
    exec (.staAbsX hhll) s = .next (s.storeTo (.absX hhll) s.a) := rfl
@[simp] theorem exec_staAbsY (hhll : Word) :
    exec (.staAbsY hhll) s = .next (s.storeTo (.absY hhll) s.a) := rfl
@[simp] theorem exec_stxZp (zz : Byte) : exec (.stxZp zz) s = .next (s.storeTo (.zp zz) s.x) := rfl
@[simp] theorem exec_stxZpY (zz : Byte) :
    exec (.stxZpY zz) s = .next (s.storeTo (.zpY zz) s.x) := rfl
@[simp] theorem exec_stxAbs (hhll : Word) :
    exec (.stxAbs hhll) s = .next (s.storeTo (.abs hhll) s.x) := rfl
@[simp] theorem exec_styZp (zz : Byte) : exec (.styZp zz) s = .next (s.storeTo (.zp zz) s.y) := rfl
@[simp] theorem exec_styZpX (zz : Byte) :
    exec (.styZpX zz) s = .next (s.storeTo (.zpX zz) s.y) := rfl
@[simp] theorem exec_styAbs (hhll : Word) :
    exec (.styAbs hhll) s = .next (s.storeTo (.abs hhll) s.y) := rfl
@[simp] theorem exec_stzZp (zz : Byte) : exec (.stzZp zz) s = .next (s.storeTo (.zp zz) 0) := rfl
@[simp] theorem exec_stzZpX (zz : Byte) : exec (.stzZpX zz) s = .next (s.storeTo (.zpX zz) 0) := rfl
@[simp] theorem exec_stzAbs (hhll : Word) :
    exec (.stzAbs hhll) s = .next (s.storeTo (.abs hhll) 0) := rfl
@[simp] theorem exec_stzAbsX (hhll : Word) :
    exec (.stzAbsX hhll) s = .next (s.storeTo (.absX hhll) 0) := rfl
@[simp] theorem exec_sax : exec .sax s = .next (s.implied fun s => (s.setA s.x).setX s.a) := rfl
@[simp] theorem exec_say : exec .say s = .next (s.implied fun s => (s.setA s.y).setY s.a) := rfl
@[simp] theorem exec_sxy : exec .sxy s = .next (s.implied fun s => (s.setX s.y).setY s.x) := rfl
@[simp] theorem exec_tax : exec .tax s = .next (s.implied fun s => s.loadX s.a) := rfl
@[simp] theorem exec_tay : exec .tay s = .next (s.implied fun s => s.loadY s.a) := rfl
@[simp] theorem exec_tsx : exec .tsx s = .next (s.implied fun s => s.loadX s.sp) := rfl
@[simp] theorem exec_txa : exec .txa s = .next (s.implied fun s => s.loadA s.x) := rfl
@[simp] theorem exec_txs : exec .txs s = .next (s.implied fun s => s.setSp s.x) := rfl
@[simp] theorem exec_tya : exec .tya s = .next (s.implied fun s => s.loadA s.y) := rfl
@[simp] theorem exec_st0 (nn : Byte) :
    exec (.st0 nn) s = .next (s.storeImmediate 0x1FE000#21 nn) := rfl
@[simp] theorem exec_st1 (nn : Byte) :
    exec (.st1 nn) s = .next (s.storeImmediate 0x1FE002#21 nn) := rfl
@[simp] theorem exec_st2 (nn : Byte) :
    exec (.st2 nn) s = .next (s.storeImmediate 0x1FE003#21 nn) := rfl
@[simp] theorem exec_tam (mask : Byte) :
    exec (.tam mask) s = .next ((s.clearT.loadMpr mask).advance 2) := rfl
@[simp] theorem exec_tma (mask : Byte) :
    exec (.tma mask) s =
      if atMostOneBit mask then .next ((s.clearT.setA (s.readMpr mask)).advance 2)
      else .refused (.tmaMultipleBits mask) := rfl
@[simp] theorem exec_tii (ssss : Word) (dddd : Word) (llll : Word) :
    exec (.tii ssss dddd llll) s =
      .next (s.blockTransfer .increment .increment ssss dddd llll) := rfl
@[simp] theorem exec_tdd (ssss : Word) (dddd : Word) (llll : Word) :
    exec (.tdd ssss dddd llll) s =
      .next (s.blockTransfer .decrement .decrement ssss dddd llll) := rfl
@[simp] theorem exec_tin (ssss : Word) (dddd : Word) (llll : Word) :
    exec (.tin ssss dddd llll) s = .next (s.blockTransfer .increment .fixed ssss dddd llll) := rfl
@[simp] theorem exec_tia (ssss : Word) (dddd : Word) (llll : Word) :
    exec (.tia ssss dddd llll) s =
      .next (s.blockTransfer .increment .alternate ssss dddd llll) := rfl
@[simp] theorem exec_tai (ssss : Word) (dddd : Word) (llll : Word) :
    exec (.tai ssss dddd llll) s =
      .next (s.blockTransfer .alternate .increment ssss dddd llll) := rfl
@[simp] theorem exec_bbr0 (zz : Byte) (rr : Byte) :
    exec (.bbr0 zz rr) s = .next (s.branchOnBit 0 false zz rr) := rfl
@[simp] theorem exec_bbr1 (zz : Byte) (rr : Byte) :
    exec (.bbr1 zz rr) s = .next (s.branchOnBit 1 false zz rr) := rfl
@[simp] theorem exec_bbr2 (zz : Byte) (rr : Byte) :
    exec (.bbr2 zz rr) s = .next (s.branchOnBit 2 false zz rr) := rfl
@[simp] theorem exec_bbr3 (zz : Byte) (rr : Byte) :
    exec (.bbr3 zz rr) s = .next (s.branchOnBit 3 false zz rr) := rfl
@[simp] theorem exec_bbr4 (zz : Byte) (rr : Byte) :
    exec (.bbr4 zz rr) s = .next (s.branchOnBit 4 false zz rr) := rfl
@[simp] theorem exec_bbr5 (zz : Byte) (rr : Byte) :
    exec (.bbr5 zz rr) s = .next (s.branchOnBit 5 false zz rr) := rfl
@[simp] theorem exec_bbr6 (zz : Byte) (rr : Byte) :
    exec (.bbr6 zz rr) s = .next (s.branchOnBit 6 false zz rr) := rfl
@[simp] theorem exec_bbr7 (zz : Byte) (rr : Byte) :
    exec (.bbr7 zz rr) s = .next (s.branchOnBit 7 false zz rr) := rfl
@[simp] theorem exec_bbs0 (zz : Byte) (rr : Byte) :
    exec (.bbs0 zz rr) s = .next (s.branchOnBit 0 true zz rr) := rfl
@[simp] theorem exec_bbs1 (zz : Byte) (rr : Byte) :
    exec (.bbs1 zz rr) s = .next (s.branchOnBit 1 true zz rr) := rfl
@[simp] theorem exec_bbs2 (zz : Byte) (rr : Byte) :
    exec (.bbs2 zz rr) s = .next (s.branchOnBit 2 true zz rr) := rfl
@[simp] theorem exec_bbs3 (zz : Byte) (rr : Byte) :
    exec (.bbs3 zz rr) s = .next (s.branchOnBit 3 true zz rr) := rfl
@[simp] theorem exec_bbs4 (zz : Byte) (rr : Byte) :
    exec (.bbs4 zz rr) s = .next (s.branchOnBit 4 true zz rr) := rfl
@[simp] theorem exec_bbs5 (zz : Byte) (rr : Byte) :
    exec (.bbs5 zz rr) s = .next (s.branchOnBit 5 true zz rr) := rfl
@[simp] theorem exec_bbs6 (zz : Byte) (rr : Byte) :
    exec (.bbs6 zz rr) s = .next (s.branchOnBit 6 true zz rr) := rfl
@[simp] theorem exec_bbs7 (zz : Byte) (rr : Byte) :
    exec (.bbs7 zz rr) s = .next (s.branchOnBit 7 true zz rr) := rfl
@[simp] theorem exec_bcc (rr : Byte) : exec (.bcc rr) s = .next (s.branchIf (!s.p.c) rr) := rfl
@[simp] theorem exec_bcs (rr : Byte) : exec (.bcs rr) s = .next (s.branchIf s.p.c rr) := rfl
@[simp] theorem exec_beq (rr : Byte) : exec (.beq rr) s = .next (s.branchIf s.p.z rr) := rfl
@[simp] theorem exec_bmi (rr : Byte) : exec (.bmi rr) s = .next (s.branchIf s.p.n rr) := rfl
@[simp] theorem exec_bne (rr : Byte) : exec (.bne rr) s = .next (s.branchIf (!s.p.z) rr) := rfl
@[simp] theorem exec_bpl (rr : Byte) : exec (.bpl rr) s = .next (s.branchIf (!s.p.n) rr) := rfl
@[simp] theorem exec_bra (rr : Byte) : exec (.bra rr) s = .next (s.branchIf true rr) := rfl
@[simp] theorem exec_bvc (rr : Byte) : exec (.bvc rr) s = .next (s.branchIf (!s.p.v) rr) := rfl
@[simp] theorem exec_bvs (rr : Byte) : exec (.bvs rr) s = .next (s.branchIf s.p.v rr) := rfl
@[simp] theorem exec_jmpAbs (hhll : Word) :
    exec (.jmpAbs hhll) s = .next (s.clearT.setPc hhll) := rfl
@[simp] theorem exec_jmpAbsInd (hhll : Word) :
    exec (.jmpAbsInd hhll) s = .next (s.jumpIndirect hhll) := rfl
@[simp] theorem exec_jmpAbsXInd (hhll : Word) :
    exec (.jmpAbsXInd hhll) s = .next (s.jumpIndirect (hhll + s.x.setWidth 16)) := rfl
@[simp] theorem exec_bsr (rr : Byte) :
    exec (.bsr rr) s = .next (s.call (s.pc + 1) (relTarget (s.pc + 2) rr)) := rfl
@[simp] theorem exec_jsr (hhll : Word) : exec (.jsr hhll) s = .next (s.call (s.pc + 2) hhll) := rfl
@[simp] theorem exec_pha : exec .pha s = .next (s.pushInstr fun s => s.a) := rfl
@[simp] theorem exec_php : exec .php s = .next (s.pushInstr fun s => s.p.toByte true) := rfl
@[simp] theorem exec_phx : exec .phx s = .next (s.pushInstr fun s => s.x) := rfl
@[simp] theorem exec_phy : exec .phy s = .next (s.pushInstr fun s => s.y) := rfl
@[simp] theorem exec_pla : exec .pla s = .next (s.pullInstr State.loadA) := rfl
@[simp] theorem exec_plp :
    exec .plp s = .next (s.pullInstr fun s b => s.setP (flagsOfByte b)) := rfl
@[simp] theorem exec_plx : exec .plx s = .next (s.pullInstr State.loadX) := rfl
@[simp] theorem exec_ply : exec .ply s = .next (s.pullInstr State.loadY) := rfl
@[simp] theorem exec_rti : exec .rti s = .next s.returnFromInterrupt := rfl
@[simp] theorem exec_rts : exec .rts s = .next s.returnFromSubroutine := rfl
@[simp] theorem exec_bitImm (nn : Byte) :
    exec (.bitImm nn) s = .next (s.withOperand (.imm nn) State.bitTest) := rfl
@[simp] theorem exec_bitZp (zz : Byte) :
    exec (.bitZp zz) s = .next (s.withOperand (.mem (.zp zz)) State.bitTest) := rfl
@[simp] theorem exec_bitZpX (zz : Byte) :
    exec (.bitZpX zz) s = .next (s.withOperand (.mem (.zpX zz)) State.bitTest) := rfl
@[simp] theorem exec_bitAbs (hhll : Word) :
    exec (.bitAbs hhll) s = .next (s.withOperand (.mem (.abs hhll)) State.bitTest) := rfl
@[simp] theorem exec_bitAbsX (hhll : Word) :
    exec (.bitAbsX hhll) s = .next (s.withOperand (.mem (.absX hhll)) State.bitTest) := rfl
@[simp] theorem exec_trbZp (zz : Byte) :
    exec (.trbZp zz) s = .next (s.rmw (trbOp s.a) (.zp zz)) := rfl
@[simp] theorem exec_trbAbs (hhll : Word) :
    exec (.trbAbs hhll) s = .next (s.rmw (trbOp s.a) (.abs hhll)) := rfl
@[simp] theorem exec_tsbZp (zz : Byte) :
    exec (.tsbZp zz) s = .next (s.rmw (tsbOp s.a) (.zp zz)) := rfl
@[simp] theorem exec_tsbAbs (hhll : Word) :
    exec (.tsbAbs hhll) s = .next (s.rmw (tsbOp s.a) (.abs hhll)) := rfl
@[simp] theorem exec_tstImmZp (nn : Byte) (zz : Byte) :
    exec (.tstImmZp nn zz) s = .next (s.testImm nn (.zp zz)) := rfl
@[simp] theorem exec_tstImmAbs (nn : Byte) (hhll : Word) :
    exec (.tstImmAbs nn hhll) s = .next (s.testImm nn (.abs hhll)) := rfl
@[simp] theorem exec_tstImmZpX (nn : Byte) (zz : Byte) :
    exec (.tstImmZpX nn zz) s = .next (s.testImm nn (.zpX zz)) := rfl
@[simp] theorem exec_tstImmAbsX (nn : Byte) (hhll : Word) :
    exec (.tstImmAbsX nn hhll) s = .next (s.testImm nn (.absX hhll)) := rfl
@[simp] theorem exec_brk :
    exec .brk s = .next (s.clearT.enterInterrupt vectorIrq2 true (s.pc + 2)) := rfl
@[simp] theorem exec_nop : exec .nop s = .next (s.implied fun s => s) := rfl
@[simp] theorem exec_rmb0 (zz : Byte) : exec (.rmb0 zz) s = .next (s.rmw (rmbOp 0) (.zp zz)) := rfl
@[simp] theorem exec_rmb1 (zz : Byte) : exec (.rmb1 zz) s = .next (s.rmw (rmbOp 1) (.zp zz)) := rfl
@[simp] theorem exec_rmb2 (zz : Byte) : exec (.rmb2 zz) s = .next (s.rmw (rmbOp 2) (.zp zz)) := rfl
@[simp] theorem exec_rmb3 (zz : Byte) : exec (.rmb3 zz) s = .next (s.rmw (rmbOp 3) (.zp zz)) := rfl
@[simp] theorem exec_rmb4 (zz : Byte) : exec (.rmb4 zz) s = .next (s.rmw (rmbOp 4) (.zp zz)) := rfl
@[simp] theorem exec_rmb5 (zz : Byte) : exec (.rmb5 zz) s = .next (s.rmw (rmbOp 5) (.zp zz)) := rfl
@[simp] theorem exec_rmb6 (zz : Byte) : exec (.rmb6 zz) s = .next (s.rmw (rmbOp 6) (.zp zz)) := rfl
@[simp] theorem exec_rmb7 (zz : Byte) : exec (.rmb7 zz) s = .next (s.rmw (rmbOp 7) (.zp zz)) := rfl
@[simp] theorem exec_smb0 (zz : Byte) : exec (.smb0 zz) s = .next (s.rmw (smbOp 0) (.zp zz)) := rfl
@[simp] theorem exec_smb1 (zz : Byte) : exec (.smb1 zz) s = .next (s.rmw (smbOp 1) (.zp zz)) := rfl
@[simp] theorem exec_smb2 (zz : Byte) : exec (.smb2 zz) s = .next (s.rmw (smbOp 2) (.zp zz)) := rfl
@[simp] theorem exec_smb3 (zz : Byte) : exec (.smb3 zz) s = .next (s.rmw (smbOp 3) (.zp zz)) := rfl
@[simp] theorem exec_smb4 (zz : Byte) : exec (.smb4 zz) s = .next (s.rmw (smbOp 4) (.zp zz)) := rfl
@[simp] theorem exec_smb5 (zz : Byte) : exec (.smb5 zz) s = .next (s.rmw (smbOp 5) (.zp zz)) := rfl
@[simp] theorem exec_smb6 (zz : Byte) : exec (.smb6 zz) s = .next (s.rmw (smbOp 6) (.zp zz)) := rfl
@[simp] theorem exec_smb7 (zz : Byte) : exec (.smb7 zz) s = .next (s.rmw (smbOp 7) (.zp zz)) := rfl
@[simp] theorem exec_csh : exec .csh s = .next (s.implied fun s => { s with speed := .high }) := rfl
@[simp] theorem exec_csl : exec .csl s = .next (s.implied fun s => { s with speed := .low }) := rfl

end Sys2Proof.Machine
end

