-- ==== Sys2Proof/Laws/Flags.lean ====
section
/-!
SUPPORT. The status byte and its flags.
-/

namespace Sys2Proof.Machine

/-- Every bit of the status byte (10_state.md R36). -/
theorem Flags.toByte_bits (p : Flags) (b : Bool) :
    (p.toByte b).getLsbD 7 = p.n ∧ (p.toByte b).getLsbD 6 = p.v ∧ (p.toByte b).getLsbD 5 = p.t ∧
    (p.toByte b).getLsbD 4 = b ∧ (p.toByte b).getLsbD 3 = p.d ∧ (p.toByte b).getLsbD 2 = p.i ∧
    (p.toByte b).getLsbD 1 = p.z ∧ (p.toByte b).getLsbD 0 = p.c := by
  obtain ⟨n, v, t, d, i, z, c⟩ := p
  revert n v t d i z c b
  decide

/-- Pulling a pushed status byte gives the flags back, whatever B was (46_subroutine_stack.md R410). -/
@[simp] theorem flagsOfByte_toByte (p : Flags) (b : Bool) : flagsOfByte (p.toByte b) = p := by
  obtain ⟨h7, h6, h5, -, h3, h2, h1, h0⟩ := p.toByte_bits b
  unfold flagsOfByte
  rw [h7, h6, h5, h3, h2, h1, h0]

@[simp] theorem Flags.setNZ_n (p : Flags) (v : Byte) : (p.setNZ v).n = v.getLsbD 7 := rfl
@[simp] theorem Flags.setNZ_v (p : Flags) (v : Byte) : (p.setNZ v).v = p.v := rfl
@[simp] theorem Flags.setNZ_t (p : Flags) (v : Byte) : (p.setNZ v).t = p.t := rfl
@[simp] theorem Flags.setNZ_d (p : Flags) (v : Byte) : (p.setNZ v).d = p.d := rfl
@[simp] theorem Flags.setNZ_i (p : Flags) (v : Byte) : (p.setNZ v).i = p.i := rfl
@[simp] theorem Flags.setNZ_z (p : Flags) (v : Byte) : (p.setNZ v).z = (v == 0) := rfl
@[simp] theorem Flags.setNZ_c (p : Flags) (v : Byte) : (p.setNZ v).c = p.c := rfl

end Sys2Proof.Machine
end

