-- ==== Sys2Proof/Laws/Ops.lean ====
section
/-!
SUPPORT. What the shared operations over the bus can change: pointer and operand reads, the stack, the
fetch. Each has its fields after it and the laws later proofs cite.
-/

namespace Sys2Proof.Machine

/-! Pointers, effective addresses and operands read only. -/

/-- Two changes of block $FF, the interrupt circuit and the environment only, one after the other. -/
theorem State.io_trans {s t u : State} (h1 : t = { s with io := t.io })
    (h2 : u = { t with io := u.io }) : u = { s with io := u.io } := by
  rw [h2, h1]

theorem State.readPair_eq (s : State) (lo hi : Word) :
    (s.readPair lo hi).2 = { s with io := (s.readPair lo hi).2.io } :=
  State.io_trans (s.memRead_eq lo) ((s.memRead lo).2.memRead_eq hi)

theorem State.readWord_eq (s : State) (la : Word) :
    (s.readWord la).2 = { s with io := (s.readWord la).2.io } :=
  s.readPair_eq _ _

theorem State.zpPointer_eq (s : State) (zz : Byte) :
    (s.zpPointer zz).2 = { s with io := (s.zpPointer zz).2.io } :=
  s.readPair_eq _ _

theorem State.effAddr_eq (s : State) (ea : Ea) :
    (s.effAddr ea).2 = { s with io := (s.effAddr ea).2.io } := by
  cases ea with
  | zp zz => rfl
  | zpX zz => rfl
  | zpY zz => rfl
  | ind zz => exact s.zpPointer_eq _
  | indX zz => exact s.zpPointer_eq _
  | indY zz => exact s.zpPointer_eq _
  | abs hhll => rfl
  | absX hhll => rfl
  | absY hhll => rfl

/-- The operand of an instruction: reading it changes no register and no byte of memory. -/
theorem State.operand_eq (s : State) (src : Source) :
    (s.operand src).2 = { s with io := (s.operand src).2.io } := by
  cases src with
  | imm nn => rfl
  | mem ea => exact State.io_trans (s.effAddr_eq ea) ((s.effAddr ea).2.memRead_eq _)

@[simp] theorem State.readPair_a (s : State) (lo hi : Word) :
    (s.readPair lo hi).2.a = s.a := by
  rw [State.readPair_eq]

@[simp] theorem State.readPair_x (s : State) (lo hi : Word) :
    (s.readPair lo hi).2.x = s.x := by
  rw [State.readPair_eq]

@[simp] theorem State.readPair_y (s : State) (lo hi : Word) :
    (s.readPair lo hi).2.y = s.y := by
  rw [State.readPair_eq]

@[simp] theorem State.readPair_sp (s : State) (lo hi : Word) :
    (s.readPair lo hi).2.sp = s.sp := by
  rw [State.readPair_eq]

@[simp] theorem State.readPair_pc (s : State) (lo hi : Word) :
    (s.readPair lo hi).2.pc = s.pc := by
  rw [State.readPair_eq]

@[simp] theorem State.readPair_p (s : State) (lo hi : Word) :
    (s.readPair lo hi).2.p = s.p := by
  rw [State.readPair_eq]

@[simp] theorem State.readPair_sh (s : State) (lo hi : Word) :
    (s.readPair lo hi).2.sh = s.sh := by
  rw [State.readPair_eq]

@[simp] theorem State.readPair_dh (s : State) (lo hi : Word) :
    (s.readPair lo hi).2.dh = s.dh := by
  rw [State.readPair_eq]

@[simp] theorem State.readPair_lh (s : State) (lo hi : Word) :
    (s.readPair lo hi).2.lh = s.lh := by
  rw [State.readPair_eq]

@[simp] theorem State.readPair_mpr (s : State) (lo hi : Word) :
    (s.readPair lo hi).2.mpr = s.mpr := by
  rw [State.readPair_eq]

@[simp] theorem State.readPair_mprLatch (s : State) (lo hi : Word) :
    (s.readPair lo hi).2.mprLatch = s.mprLatch := by
  rw [State.readPair_eq]

@[simp] theorem State.readPair_speed (s : State) (lo hi : Word) :
    (s.readPair lo hi).2.speed = s.speed := by
  rw [State.readPair_eq]

@[simp] theorem State.readPair_intSel (s : State) (lo hi : Word) :
    (s.readPair lo hi).2.intSel = s.intSel := by
  rw [State.readPair_eq]

@[simp] theorem State.readPair_mem (s : State) (lo hi : Word) :
    (s.readPair lo hi).2.mem = s.mem := by
  rw [State.readPair_eq]

@[simp] theorem State.readPair_platform (s : State) (lo hi : Word) :
    (s.readPair lo hi).2.platform = s.platform := by
  rw [State.readPair_eq]

@[simp] theorem State.readWord_a (s : State) (la : Word) :
    (s.readWord la).2.a = s.a := by
  rw [State.readWord_eq]

@[simp] theorem State.readWord_x (s : State) (la : Word) :
    (s.readWord la).2.x = s.x := by
  rw [State.readWord_eq]

@[simp] theorem State.readWord_y (s : State) (la : Word) :
    (s.readWord la).2.y = s.y := by
  rw [State.readWord_eq]

@[simp] theorem State.readWord_sp (s : State) (la : Word) :
    (s.readWord la).2.sp = s.sp := by
  rw [State.readWord_eq]

@[simp] theorem State.readWord_pc (s : State) (la : Word) :
    (s.readWord la).2.pc = s.pc := by
  rw [State.readWord_eq]

@[simp] theorem State.readWord_p (s : State) (la : Word) :
    (s.readWord la).2.p = s.p := by
  rw [State.readWord_eq]

@[simp] theorem State.readWord_sh (s : State) (la : Word) :
    (s.readWord la).2.sh = s.sh := by
  rw [State.readWord_eq]

@[simp] theorem State.readWord_dh (s : State) (la : Word) :
    (s.readWord la).2.dh = s.dh := by
  rw [State.readWord_eq]

@[simp] theorem State.readWord_lh (s : State) (la : Word) :
    (s.readWord la).2.lh = s.lh := by
  rw [State.readWord_eq]

@[simp] theorem State.readWord_mpr (s : State) (la : Word) :
    (s.readWord la).2.mpr = s.mpr := by
  rw [State.readWord_eq]

@[simp] theorem State.readWord_mprLatch (s : State) (la : Word) :
    (s.readWord la).2.mprLatch = s.mprLatch := by
  rw [State.readWord_eq]

@[simp] theorem State.readWord_speed (s : State) (la : Word) :
    (s.readWord la).2.speed = s.speed := by
  rw [State.readWord_eq]

@[simp] theorem State.readWord_intSel (s : State) (la : Word) :
    (s.readWord la).2.intSel = s.intSel := by
  rw [State.readWord_eq]

@[simp] theorem State.readWord_mem (s : State) (la : Word) :
    (s.readWord la).2.mem = s.mem := by
  rw [State.readWord_eq]

@[simp] theorem State.readWord_platform (s : State) (la : Word) :
    (s.readWord la).2.platform = s.platform := by
  rw [State.readWord_eq]

@[simp] theorem State.effAddr_a (s : State) (ea : Ea) :
    (s.effAddr ea).2.a = s.a := by
  rw [State.effAddr_eq]

@[simp] theorem State.effAddr_x (s : State) (ea : Ea) :
    (s.effAddr ea).2.x = s.x := by
  rw [State.effAddr_eq]

@[simp] theorem State.effAddr_y (s : State) (ea : Ea) :
    (s.effAddr ea).2.y = s.y := by
  rw [State.effAddr_eq]

@[simp] theorem State.effAddr_sp (s : State) (ea : Ea) :
    (s.effAddr ea).2.sp = s.sp := by
  rw [State.effAddr_eq]

@[simp] theorem State.effAddr_pc (s : State) (ea : Ea) :
    (s.effAddr ea).2.pc = s.pc := by
  rw [State.effAddr_eq]

@[simp] theorem State.effAddr_p (s : State) (ea : Ea) :
    (s.effAddr ea).2.p = s.p := by
  rw [State.effAddr_eq]

@[simp] theorem State.effAddr_sh (s : State) (ea : Ea) :
    (s.effAddr ea).2.sh = s.sh := by
  rw [State.effAddr_eq]

@[simp] theorem State.effAddr_dh (s : State) (ea : Ea) :
    (s.effAddr ea).2.dh = s.dh := by
  rw [State.effAddr_eq]

@[simp] theorem State.effAddr_lh (s : State) (ea : Ea) :
    (s.effAddr ea).2.lh = s.lh := by
  rw [State.effAddr_eq]

@[simp] theorem State.effAddr_mpr (s : State) (ea : Ea) :
    (s.effAddr ea).2.mpr = s.mpr := by
  rw [State.effAddr_eq]

@[simp] theorem State.effAddr_mprLatch (s : State) (ea : Ea) :
    (s.effAddr ea).2.mprLatch = s.mprLatch := by
  rw [State.effAddr_eq]

@[simp] theorem State.effAddr_speed (s : State) (ea : Ea) :
    (s.effAddr ea).2.speed = s.speed := by
  rw [State.effAddr_eq]

@[simp] theorem State.effAddr_intSel (s : State) (ea : Ea) :
    (s.effAddr ea).2.intSel = s.intSel := by
  rw [State.effAddr_eq]

@[simp] theorem State.effAddr_mem (s : State) (ea : Ea) :
    (s.effAddr ea).2.mem = s.mem := by
  rw [State.effAddr_eq]

@[simp] theorem State.effAddr_platform (s : State) (ea : Ea) :
    (s.effAddr ea).2.platform = s.platform := by
  rw [State.effAddr_eq]

@[simp] theorem State.operand_a (s : State) (src : Source) :
    (s.operand src).2.a = s.a := by
  rw [State.operand_eq]

@[simp] theorem State.operand_x (s : State) (src : Source) :
    (s.operand src).2.x = s.x := by
  rw [State.operand_eq]

@[simp] theorem State.operand_y (s : State) (src : Source) :
    (s.operand src).2.y = s.y := by
  rw [State.operand_eq]

@[simp] theorem State.operand_sp (s : State) (src : Source) :
    (s.operand src).2.sp = s.sp := by
  rw [State.operand_eq]

@[simp] theorem State.operand_pc (s : State) (src : Source) :
    (s.operand src).2.pc = s.pc := by
  rw [State.operand_eq]

@[simp] theorem State.operand_p (s : State) (src : Source) :
    (s.operand src).2.p = s.p := by
  rw [State.operand_eq]

@[simp] theorem State.operand_sh (s : State) (src : Source) :
    (s.operand src).2.sh = s.sh := by
  rw [State.operand_eq]

@[simp] theorem State.operand_dh (s : State) (src : Source) :
    (s.operand src).2.dh = s.dh := by
  rw [State.operand_eq]

@[simp] theorem State.operand_lh (s : State) (src : Source) :
    (s.operand src).2.lh = s.lh := by
  rw [State.operand_eq]

@[simp] theorem State.operand_mpr (s : State) (src : Source) :
    (s.operand src).2.mpr = s.mpr := by
  rw [State.operand_eq]

@[simp] theorem State.operand_mprLatch (s : State) (src : Source) :
    (s.operand src).2.mprLatch = s.mprLatch := by
  rw [State.operand_eq]

@[simp] theorem State.operand_speed (s : State) (src : Source) :
    (s.operand src).2.speed = s.speed := by
  rw [State.operand_eq]

@[simp] theorem State.operand_intSel (s : State) (src : Source) :
    (s.operand src).2.intSel = s.intSel := by
  rw [State.operand_eq]

@[simp] theorem State.operand_mem (s : State) (src : Source) :
    (s.operand src).2.mem = s.mem := by
  rw [State.operand_eq]

@[simp] theorem State.operand_platform (s : State) (src : Source) :
    (s.operand src).2.platform = s.platform := by
  rw [State.operand_eq]

/-! What reads see: a state with the same memory, platform, mapping, block $FF and index registers
answers the same. -/

/-- Two states a read cannot tell apart. -/
structure State.SameBus (s t : State) : Prop where
  mem : t.mem = s.mem
  platform : t.platform = s.platform
  mpr : t.mpr = s.mpr
  io : t.io = s.io

theorem State.SameBus.read {s t : State} (h : State.SameBus s t) (la : Word) :
    (t.memRead la).1 = (s.memRead la).1 ∧ State.SameBus (s.memRead la).2 (t.memRead la).2 := by
  obtain ⟨h1, h2⟩ := s.memRead_congr t la h.mem h.platform h.mpr h.io
  exact ⟨h1, by simp [h.mem], by simp [h.platform], by simp [h.mpr], h2⟩

theorem State.SameBus.readPair {s t : State} (h : State.SameBus s t) (lo hi : Word) :
    (t.readPair lo hi).1 = (s.readPair lo hi).1 ∧
      State.SameBus (s.readPair lo hi).2 (t.readPair lo hi).2 := by
  obtain ⟨h1, h2⟩ := h.read lo
  obtain ⟨h3, h4⟩ := h2.read hi
  refine ⟨?_, h4⟩
  show joinBytes (((t.memRead lo).2).memRead hi).1 (t.memRead lo).1 = _
  rw [h1, h3]
  rfl

theorem State.SameBus.write {s t : State} (h : State.SameBus s t) (la : Word) (v : Byte) :
    State.SameBus (s.memWrite la v) (t.memWrite la v) := by
  have htr : t.translate la = s.translate la := State.translate_congr h.mpr la
  refine ⟨?_, by simp [h.platform], by simp [h.mpr], ?_⟩
  · rw [State.memWrite_mem, State.memWrite_mem, htr, State.isRam_congr h.platform, h.mem]
  · unfold State.memWrite
    rw [htr]
    exact State.physWrite_congr s t _ v h.platform h.io

theorem State.SameBus.effAddr {s t : State} (h : State.SameBus s t) (hx : t.x = s.x) (hy : t.y = s.y)
    (ea : Ea) : (t.effAddr ea).1 = (s.effAddr ea).1 ∧
      State.SameBus (s.effAddr ea).2 (t.effAddr ea).2 := by
  cases ea with
  | zp zz => exact ⟨rfl, h⟩
  | zpX zz => exact ⟨by simp [State.effAddr, hx], h⟩
  | zpY zz => exact ⟨by simp [State.effAddr, hy], h⟩
  | ind zz => exact h.readPair _ _
  | indX zz =>
    show (t.zpPointer (zz + t.x)).1 = (s.zpPointer (zz + s.x)).1 ∧
      State.SameBus (s.zpPointer (zz + s.x)).2 (t.zpPointer (zz + t.x)).2
    rw [hx]
    exact h.readPair _ _
  | indY zz =>
    obtain ⟨h1, h2⟩ := h.readPair (zpAddr zz) (zpAddr (zz + 1))
    refine ⟨?_, h2⟩
    show (t.zpPointer zz).1 + t.y.setWidth 16 = (s.zpPointer zz).1 + s.y.setWidth 16
    unfold State.zpPointer
    rw [h1, hy]
  | abs hhll => exact ⟨rfl, h⟩
  | absX hhll => exact ⟨by simp [State.effAddr, hx], h⟩
  | absY hhll => exact ⟨by simp [State.effAddr, hy], h⟩

theorem State.SameBus.operand {s t : State} (h : State.SameBus s t) (hx : t.x = s.x) (hy : t.y = s.y)
    (src : Source) : (t.operand src).1 = (s.operand src).1 ∧
      State.SameBus (s.operand src).2 (t.operand src).2 := by
  cases src with
  | imm nn => exact ⟨rfl, h⟩
  | mem ea =>
    obtain ⟨h1, h2⟩ := h.effAddr hx hy ea
    show (((t.effAddr ea).2).memRead (t.effAddr ea).1).1 =
      (((s.effAddr ea).2).memRead (s.effAddr ea).1).1 ∧
      State.SameBus (((s.effAddr ea).2).memRead (s.effAddr ea).1).2
        (((t.effAddr ea).2).memRead (t.effAddr ea).1).2
    rw [h1]
    exact h2.read _

/-- A read from a state the bus cannot tell from another. -/
theorem State.SameBus.memRead_eq {s t : State} (h : State.SameBus s t) (la : Word) :
    t.memRead la = ((s.memRead la).1, { t with io := (s.memRead la).2.io }) := by
  obtain ⟨h1, h2⟩ := h.read la
  refine Prod.ext h1 ?_
  rw [t.memRead_eq la, h2.io]

/-- A write from a state the bus cannot tell from another. -/
theorem State.SameBus.memWrite_eq {s t : State} (h : State.SameBus s t) (la : Word) (v : Byte) :
    t.memWrite la v =
      { t with mem := (s.memWrite la v).mem, io := (s.memWrite la v).io } := by
  have hw := h.write la v
  rw [t.memWrite_eq la v, hw.mem, hw.io]

/-- An effective address from a state the bus cannot tell from another. -/
theorem State.SameBus.effAddr_eq {s t : State} (h : State.SameBus s t) (hx : t.x = s.x)
    (hy : t.y = s.y) (ea : Ea) :
    t.effAddr ea = ((s.effAddr ea).1, { t with io := (s.effAddr ea).2.io }) := by
  obtain ⟨h1, h2⟩ := h.effAddr hx hy ea
  refine Prod.ext h1 ?_
  rw [t.effAddr_eq ea, h2.io]

/-- An operand from a state the bus cannot tell from another. -/
theorem State.SameBus.operand_eq {s t : State} (h : State.SameBus s t) (hx : t.x = s.x)
    (hy : t.y = s.y) (src : Source) :
    t.operand src = ((s.operand src).1, { t with io := (s.operand src).2.io }) := by
  obtain ⟨h1, h2⟩ := h.operand hx hy src
  refine Prod.ext h1 ?_
  rw [t.operand_eq src, h2.io]

/-- The clearing of T in the fetch cannot be seen on the bus. -/
theorem State.clearT_sameBus (s : State) : State.SameBus s s.clearT := ⟨rfl, rfl, rfl, rfl⟩

/-- Nor can a write of S. -/
theorem State.setSp_sameBus (s : State) (v : Byte) : State.SameBus s (s.setSp v) :=
  ⟨rfl, rfl, rfl, rfl⟩

/-- Nor a write of the flags. -/
theorem State.setP_sameBus (s : State) (p : Flags) : State.SameBus s (s.setP p) :=
  ⟨rfl, rfl, rfl, rfl⟩

/-! The stack. -/

/-- A push: one write at `$2100 + S`, then S is one less. -/
theorem State.push_eq (s : State) (v : Byte) :
    s.push v = { s with
      sp := s.sp - 1, mem := (s.memWrite (stackAddr s.sp) v).mem
      io := (s.memWrite (stackAddr s.sp) v).io } := by
  unfold State.push State.setSp
  rw [State.memWrite_eq]

/-- A pull: S is one more, then one read at `$2100 + S`. -/
theorem State.pull_eq (s : State) :
    s.pull.2 = { s with sp := s.sp + 1, io := s.pull.2.io } := by
  unfold State.pull
  rw [State.memRead_eq]
  rfl

theorem State.pull_fst (s : State) : s.pull.1 = (s.memRead (stackAddr (s.sp + 1))).1 :=
  ((s.setSp_sameBus _).read _).1

theorem State.pull_io (s : State) : s.pull.2.io = (s.memRead (stackAddr (s.sp + 1))).2.io :=
  ((s.setSp_sameBus _).read _).2.io

@[simp] theorem State.push_a (s : State) (v : Byte) : (s.push v).a = s.a := by
  rw [State.push_eq]

@[simp] theorem State.push_x (s : State) (v : Byte) : (s.push v).x = s.x := by
  rw [State.push_eq]

@[simp] theorem State.push_y (s : State) (v : Byte) : (s.push v).y = s.y := by
  rw [State.push_eq]

@[simp] theorem State.push_sp (s : State) (v : Byte) : (s.push v).sp = s.sp - 1 := by
  rw [State.push_eq]

@[simp] theorem State.push_pc (s : State) (v : Byte) : (s.push v).pc = s.pc := by
  rw [State.push_eq]

@[simp] theorem State.push_p (s : State) (v : Byte) : (s.push v).p = s.p := by
  rw [State.push_eq]

@[simp] theorem State.push_sh (s : State) (v : Byte) : (s.push v).sh = s.sh := by
  rw [State.push_eq]

@[simp] theorem State.push_dh (s : State) (v : Byte) : (s.push v).dh = s.dh := by
  rw [State.push_eq]

@[simp] theorem State.push_lh (s : State) (v : Byte) : (s.push v).lh = s.lh := by
  rw [State.push_eq]

@[simp] theorem State.push_mpr (s : State) (v : Byte) : (s.push v).mpr = s.mpr := by
  rw [State.push_eq]

@[simp] theorem State.push_mprLatch (s : State) (v : Byte) : (s.push v).mprLatch = s.mprLatch := by
  rw [State.push_eq]

@[simp] theorem State.push_speed (s : State) (v : Byte) : (s.push v).speed = s.speed := by
  rw [State.push_eq]

@[simp] theorem State.push_intSel (s : State) (v : Byte) : (s.push v).intSel = s.intSel := by
  rw [State.push_eq]

@[simp] theorem State.push_platform (s : State) (v : Byte) : (s.push v).platform = s.platform := by
  rw [State.push_eq]

@[simp] theorem State.pull_a (s : State) : s.pull.2.a = s.a := by
  rw [State.pull_eq]

@[simp] theorem State.pull_x (s : State) : s.pull.2.x = s.x := by
  rw [State.pull_eq]

@[simp] theorem State.pull_y (s : State) : s.pull.2.y = s.y := by
  rw [State.pull_eq]

@[simp] theorem State.pull_sp (s : State) : s.pull.2.sp = s.sp + 1 := by
  rw [State.pull_eq]

@[simp] theorem State.pull_pc (s : State) : s.pull.2.pc = s.pc := by
  rw [State.pull_eq]

@[simp] theorem State.pull_p (s : State) : s.pull.2.p = s.p := by
  rw [State.pull_eq]

@[simp] theorem State.pull_sh (s : State) : s.pull.2.sh = s.sh := by
  rw [State.pull_eq]

@[simp] theorem State.pull_dh (s : State) : s.pull.2.dh = s.dh := by
  rw [State.pull_eq]

@[simp] theorem State.pull_lh (s : State) : s.pull.2.lh = s.lh := by
  rw [State.pull_eq]

@[simp] theorem State.pull_mpr (s : State) : s.pull.2.mpr = s.mpr := by
  rw [State.pull_eq]

@[simp] theorem State.pull_mprLatch (s : State) : s.pull.2.mprLatch = s.mprLatch := by
  rw [State.pull_eq]

@[simp] theorem State.pull_speed (s : State) : s.pull.2.speed = s.speed := by
  rw [State.pull_eq]

@[simp] theorem State.pull_intSel (s : State) : s.pull.2.intSel = s.intSel := by
  rw [State.pull_eq]

@[simp] theorem State.pull_mem (s : State) : s.pull.2.mem = s.mem := by
  rw [State.pull_eq]

@[simp] theorem State.pull_platform (s : State) : s.pull.2.platform = s.platform := by
  rw [State.pull_eq]

theorem State.push_mem (s : State) (v : Byte) :
    (s.push v).mem = (s.memWrite (stackAddr s.sp) v).mem := by
  rw [State.push_eq]

theorem State.push_io (s : State) (v : Byte) :
    (s.push v).io = (s.memWrite (stackAddr s.sp) v).io := by
  rw [State.push_eq]

/-! The canonical form and the range of memory, over the shared operations. -/

/-- Memory is canonical and lists the external bus only. -/
def Memory.ok (m : Memory) : Prop := m.wf = true ∧ m.below blockFFBase = true

theorem State.memWrite_ok (s : State) (la : Word) (v : Byte) (h : s.mem.ok) :
    (s.memWrite la v).mem.ok :=
  ⟨s.physWrite_wf _ v h.1, s.physWrite_below _ v h.2⟩

theorem State.push_ok (s : State) (v : Byte) (h : s.mem.ok) : (s.push v).mem.ok := by
  rw [State.push_mem]
  exact s.memWrite_ok _ v h

theorem State.blockLoop_ok (src dst : Motion) (n : Nat) (s : State) (a b c : Word) (alt : Bool)
    (h : s.mem.ok) : (State.blockLoop src dst n s a b c alt).mem.ok := by
  induction n generalizing s a b c alt with
  | zero => exact h
  | succ n ih =>
    exact ih _ _ _ _ _ (State.memWrite_ok _ _ _ (by simpa using h))

/-- What a block transfer's bytes leave alone. -/
theorem State.blockLoop_eq (src dst : Motion) (n : Nat) (s : State) (a b c : Word) (alt : Bool) :
    ∃ sh dh lh mem io, State.blockLoop src dst n s a b c alt =
      { s with sh := sh, dh := dh, lh := lh, mem := mem, io := io } := by
  induction n generalizing s a b c alt with
  | zero => exact ⟨_, _, _, _, _, rfl⟩
  | succ n ih =>
    unfold State.blockLoop
    obtain ⟨sh, dh, lh, mem, io, h⟩ := ih
      { (s.memRead (motionAddr src a alt)).2.memWrite (motionAddr dst b alt)
          (s.memRead (motionAddr src a alt)).1 with
        sh := hiByte (motionNext src a), dh := hiByte (motionNext dst b), lh := hiByte (c - 1) }
      (motionNext src a) (motionNext dst b) (c - 1) (!alt)
    refine ⟨sh, dh, lh, mem, io, h.trans ?_⟩
    rw [State.memWrite_eq, State.memRead_eq]

/-! The fetch. -/

theorem State.fetchBytes_eq (n : Nat) (s : State) (la : Word) :
    (State.fetchBytes n s la).2 = { s with io := (State.fetchBytes n s la).2.io } := by
  induction n generalizing s la with
  | zero => rfl
  | succ n ih => exact State.io_trans (s.memRead_eq la) (ih _ _)

/-- The fetch reads only. -/
theorem State.fetch_eq (s : State) : s.fetch.2 = { s with io := s.fetch.2.io } := by
  unfold State.fetch
  cases h : (opcodeCell (s.memRead s.pc).1).operandBytes with
  | none =>
    simp only [h]
    exact s.memRead_eq _
  | some n =>
    simp only [h]
    exact State.io_trans (s.memRead_eq _) (State.fetchBytes_eq _ _ _)

end Sys2Proof.Machine
end

