-- ==== Sys2Proof/Laws/PerInstr.lean ====
section
/-!
SUPPORT. Families of lemmas with one lemma per instruction. `EncodeLength`: the encoding of an
instruction starts with its opcode byte, is as long as 30_encoding.md R151 says, and its opcode byte
tells the decoder how many operand bytes follow.
-/

namespace Sys2Proof.Laws.EncodeLength

/-- The encoding of an instruction has its opcode byte first and its format's length, and the opcode
map gives that opcode byte the same number of operand bytes (30_encoding.md R150, R151). -/
def Statement (i : Instr) : Prop :=
  (encode i).head? = some i.opcode ∧ (encode i).length = i.length ∧
    (opcodeCell i.opcode).operandBytes = some (i.length - 1)

theorem adcImm (nn : Byte) : Statement (.adcImm nn) :=
  ⟨rfl, rfl, (by decide : (opcodeCell 0x69#8).operandBytes = some 1)⟩
theorem adcZp (zz : Byte) : Statement (.adcZp zz) :=
  ⟨rfl, rfl, (by decide : (opcodeCell 0x65#8).operandBytes = some 1)⟩
theorem adcZpX (zz : Byte) : Statement (.adcZpX zz) :=
  ⟨rfl, rfl, (by decide : (opcodeCell 0x75#8).operandBytes = some 1)⟩
theorem adcInd (zz : Byte) : Statement (.adcInd zz) :=
  ⟨rfl, rfl, (by decide : (opcodeCell 0x72#8).operandBytes = some 1)⟩
theorem adcIndX (zz : Byte) : Statement (.adcIndX zz) :=
  ⟨rfl, rfl, (by decide : (opcodeCell 0x61#8).operandBytes = some 1)⟩
theorem adcIndY (zz : Byte) : Statement (.adcIndY zz) :=
  ⟨rfl, rfl, (by decide : (opcodeCell 0x71#8).operandBytes = some 1)⟩
theorem adcAbs (hhll : Word) : Statement (.adcAbs hhll) :=
  ⟨rfl, rfl, (by decide : (opcodeCell 0x6D#8).operandBytes = some 2)⟩
theorem adcAbsX (hhll : Word) : Statement (.adcAbsX hhll) :=
  ⟨rfl, rfl, (by decide : (opcodeCell 0x7D#8).operandBytes = some 2)⟩
theorem adcAbsY (hhll : Word) : Statement (.adcAbsY hhll) :=
  ⟨rfl, rfl, (by decide : (opcodeCell 0x79#8).operandBytes = some 2)⟩
theorem andImm (nn : Byte) : Statement (.andImm nn) :=
  ⟨rfl, rfl, (by decide : (opcodeCell 0x29#8).operandBytes = some 1)⟩
theorem andZp (zz : Byte) : Statement (.andZp zz) :=
  ⟨rfl, rfl, (by decide : (opcodeCell 0x25#8).operandBytes = some 1)⟩
theorem andZpX (zz : Byte) : Statement (.andZpX zz) :=
  ⟨rfl, rfl, (by decide : (opcodeCell 0x35#8).operandBytes = some 1)⟩
theorem andInd (zz : Byte) : Statement (.andInd zz) :=
  ⟨rfl, rfl, (by decide : (opcodeCell 0x32#8).operandBytes = some 1)⟩
theorem andIndX (zz : Byte) : Statement (.andIndX zz) :=
  ⟨rfl, rfl, (by decide : (opcodeCell 0x21#8).operandBytes = some 1)⟩
theorem andIndY (zz : Byte) : Statement (.andIndY zz) :=
  ⟨rfl, rfl, (by decide : (opcodeCell 0x31#8).operandBytes = some 1)⟩
theorem andAbs (hhll : Word) : Statement (.andAbs hhll) :=
  ⟨rfl, rfl, (by decide : (opcodeCell 0x2D#8).operandBytes = some 2)⟩
theorem andAbsX (hhll : Word) : Statement (.andAbsX hhll) :=
  ⟨rfl, rfl, (by decide : (opcodeCell 0x3D#8).operandBytes = some 2)⟩
theorem andAbsY (hhll : Word) : Statement (.andAbsY hhll) :=
  ⟨rfl, rfl, (by decide : (opcodeCell 0x39#8).operandBytes = some 2)⟩
theorem cmpImm (nn : Byte) : Statement (.cmpImm nn) :=
  ⟨rfl, rfl, (by decide : (opcodeCell 0xC9#8).operandBytes = some 1)⟩
theorem cmpZp (zz : Byte) : Statement (.cmpZp zz) :=
  ⟨rfl, rfl, (by decide : (opcodeCell 0xC5#8).operandBytes = some 1)⟩
theorem cmpZpX (zz : Byte) : Statement (.cmpZpX zz) :=
  ⟨rfl, rfl, (by decide : (opcodeCell 0xD5#8).operandBytes = some 1)⟩
theorem cmpInd (zz : Byte) : Statement (.cmpInd zz) :=
  ⟨rfl, rfl, (by decide : (opcodeCell 0xD2#8).operandBytes = some 1)⟩
theorem cmpIndX (zz : Byte) : Statement (.cmpIndX zz) :=
  ⟨rfl, rfl, (by decide : (opcodeCell 0xC1#8).operandBytes = some 1)⟩
theorem cmpIndY (zz : Byte) : Statement (.cmpIndY zz) :=
  ⟨rfl, rfl, (by decide : (opcodeCell 0xD1#8).operandBytes = some 1)⟩
theorem cmpAbs (hhll : Word) : Statement (.cmpAbs hhll) :=
  ⟨rfl, rfl, (by decide : (opcodeCell 0xCD#8).operandBytes = some 2)⟩
theorem cmpAbsX (hhll : Word) : Statement (.cmpAbsX hhll) :=
  ⟨rfl, rfl, (by decide : (opcodeCell 0xDD#8).operandBytes = some 2)⟩
theorem cmpAbsY (hhll : Word) : Statement (.cmpAbsY hhll) :=
  ⟨rfl, rfl, (by decide : (opcodeCell 0xD9#8).operandBytes = some 2)⟩
theorem cpxImm (nn : Byte) : Statement (.cpxImm nn) :=
  ⟨rfl, rfl, (by decide : (opcodeCell 0xE0#8).operandBytes = some 1)⟩
theorem cpxZp (zz : Byte) : Statement (.cpxZp zz) :=
  ⟨rfl, rfl, (by decide : (opcodeCell 0xE4#8).operandBytes = some 1)⟩
theorem cpxAbs (hhll : Word) : Statement (.cpxAbs hhll) :=
  ⟨rfl, rfl, (by decide : (opcodeCell 0xEC#8).operandBytes = some 2)⟩
theorem cpyImm (nn : Byte) : Statement (.cpyImm nn) :=
  ⟨rfl, rfl, (by decide : (opcodeCell 0xC0#8).operandBytes = some 1)⟩
theorem cpyZp (zz : Byte) : Statement (.cpyZp zz) :=
  ⟨rfl, rfl, (by decide : (opcodeCell 0xC4#8).operandBytes = some 1)⟩
theorem cpyAbs (hhll : Word) : Statement (.cpyAbs hhll) :=
  ⟨rfl, rfl, (by decide : (opcodeCell 0xCC#8).operandBytes = some 2)⟩
theorem eorImm (nn : Byte) : Statement (.eorImm nn) :=
  ⟨rfl, rfl, (by decide : (opcodeCell 0x49#8).operandBytes = some 1)⟩
theorem eorZp (zz : Byte) : Statement (.eorZp zz) :=
  ⟨rfl, rfl, (by decide : (opcodeCell 0x45#8).operandBytes = some 1)⟩
theorem eorZpX (zz : Byte) : Statement (.eorZpX zz) :=
  ⟨rfl, rfl, (by decide : (opcodeCell 0x55#8).operandBytes = some 1)⟩
theorem eorInd (zz : Byte) : Statement (.eorInd zz) :=
  ⟨rfl, rfl, (by decide : (opcodeCell 0x52#8).operandBytes = some 1)⟩
theorem eorIndX (zz : Byte) : Statement (.eorIndX zz) :=
  ⟨rfl, rfl, (by decide : (opcodeCell 0x41#8).operandBytes = some 1)⟩
theorem eorIndY (zz : Byte) : Statement (.eorIndY zz) :=
  ⟨rfl, rfl, (by decide : (opcodeCell 0x51#8).operandBytes = some 1)⟩
theorem eorAbs (hhll : Word) : Statement (.eorAbs hhll) :=
  ⟨rfl, rfl, (by decide : (opcodeCell 0x4D#8).operandBytes = some 2)⟩
theorem eorAbsX (hhll : Word) : Statement (.eorAbsX hhll) :=
  ⟨rfl, rfl, (by decide : (opcodeCell 0x5D#8).operandBytes = some 2)⟩
theorem eorAbsY (hhll : Word) : Statement (.eorAbsY hhll) :=
  ⟨rfl, rfl, (by decide : (opcodeCell 0x59#8).operandBytes = some 2)⟩
theorem oraImm (nn : Byte) : Statement (.oraImm nn) :=
  ⟨rfl, rfl, (by decide : (opcodeCell 0x09#8).operandBytes = some 1)⟩
theorem oraZp (zz : Byte) : Statement (.oraZp zz) :=
  ⟨rfl, rfl, (by decide : (opcodeCell 0x05#8).operandBytes = some 1)⟩
theorem oraZpX (zz : Byte) : Statement (.oraZpX zz) :=
  ⟨rfl, rfl, (by decide : (opcodeCell 0x15#8).operandBytes = some 1)⟩
theorem oraInd (zz : Byte) : Statement (.oraInd zz) :=
  ⟨rfl, rfl, (by decide : (opcodeCell 0x12#8).operandBytes = some 1)⟩
theorem oraIndX (zz : Byte) : Statement (.oraIndX zz) :=
  ⟨rfl, rfl, (by decide : (opcodeCell 0x01#8).operandBytes = some 1)⟩
theorem oraIndY (zz : Byte) : Statement (.oraIndY zz) :=
  ⟨rfl, rfl, (by decide : (opcodeCell 0x11#8).operandBytes = some 1)⟩
theorem oraAbs (hhll : Word) : Statement (.oraAbs hhll) :=
  ⟨rfl, rfl, (by decide : (opcodeCell 0x0D#8).operandBytes = some 2)⟩
theorem oraAbsX (hhll : Word) : Statement (.oraAbsX hhll) :=
  ⟨rfl, rfl, (by decide : (opcodeCell 0x1D#8).operandBytes = some 2)⟩
theorem oraAbsY (hhll : Word) : Statement (.oraAbsY hhll) :=
  ⟨rfl, rfl, (by decide : (opcodeCell 0x19#8).operandBytes = some 2)⟩
theorem sbcImm (nn : Byte) : Statement (.sbcImm nn) :=
  ⟨rfl, rfl, (by decide : (opcodeCell 0xE9#8).operandBytes = some 1)⟩
theorem sbcZp (zz : Byte) : Statement (.sbcZp zz) :=
  ⟨rfl, rfl, (by decide : (opcodeCell 0xE5#8).operandBytes = some 1)⟩
theorem sbcZpX (zz : Byte) : Statement (.sbcZpX zz) :=
  ⟨rfl, rfl, (by decide : (opcodeCell 0xF5#8).operandBytes = some 1)⟩
theorem sbcInd (zz : Byte) : Statement (.sbcInd zz) :=
  ⟨rfl, rfl, (by decide : (opcodeCell 0xF2#8).operandBytes = some 1)⟩
theorem sbcIndX (zz : Byte) : Statement (.sbcIndX zz) :=
  ⟨rfl, rfl, (by decide : (opcodeCell 0xE1#8).operandBytes = some 1)⟩
theorem sbcIndY (zz : Byte) : Statement (.sbcIndY zz) :=
  ⟨rfl, rfl, (by decide : (opcodeCell 0xF1#8).operandBytes = some 1)⟩
theorem sbcAbs (hhll : Word) : Statement (.sbcAbs hhll) :=
  ⟨rfl, rfl, (by decide : (opcodeCell 0xED#8).operandBytes = some 2)⟩
theorem sbcAbsX (hhll : Word) : Statement (.sbcAbsX hhll) :=
  ⟨rfl, rfl, (by decide : (opcodeCell 0xFD#8).operandBytes = some 2)⟩
theorem sbcAbsY (hhll : Word) : Statement (.sbcAbsY hhll) :=
  ⟨rfl, rfl, (by decide : (opcodeCell 0xF9#8).operandBytes = some 2)⟩
theorem aslAcc : Statement .aslAcc :=
  ⟨rfl, rfl, (by decide : (opcodeCell 0x0A#8).operandBytes = some 0)⟩
theorem aslZp (zz : Byte) : Statement (.aslZp zz) :=
  ⟨rfl, rfl, (by decide : (opcodeCell 0x06#8).operandBytes = some 1)⟩
theorem aslZpX (zz : Byte) : Statement (.aslZpX zz) :=
  ⟨rfl, rfl, (by decide : (opcodeCell 0x16#8).operandBytes = some 1)⟩
theorem aslAbs (hhll : Word) : Statement (.aslAbs hhll) :=
  ⟨rfl, rfl, (by decide : (opcodeCell 0x0E#8).operandBytes = some 2)⟩
theorem aslAbsX (hhll : Word) : Statement (.aslAbsX hhll) :=
  ⟨rfl, rfl, (by decide : (opcodeCell 0x1E#8).operandBytes = some 2)⟩
theorem lsrAcc : Statement .lsrAcc :=
  ⟨rfl, rfl, (by decide : (opcodeCell 0x4A#8).operandBytes = some 0)⟩
theorem lsrZp (zz : Byte) : Statement (.lsrZp zz) :=
  ⟨rfl, rfl, (by decide : (opcodeCell 0x46#8).operandBytes = some 1)⟩
theorem lsrZpX (zz : Byte) : Statement (.lsrZpX zz) :=
  ⟨rfl, rfl, (by decide : (opcodeCell 0x56#8).operandBytes = some 1)⟩
theorem lsrAbs (hhll : Word) : Statement (.lsrAbs hhll) :=
  ⟨rfl, rfl, (by decide : (opcodeCell 0x4E#8).operandBytes = some 2)⟩
theorem lsrAbsX (hhll : Word) : Statement (.lsrAbsX hhll) :=
  ⟨rfl, rfl, (by decide : (opcodeCell 0x5E#8).operandBytes = some 2)⟩
theorem rolAcc : Statement .rolAcc :=
  ⟨rfl, rfl, (by decide : (opcodeCell 0x2A#8).operandBytes = some 0)⟩
theorem rolZp (zz : Byte) : Statement (.rolZp zz) :=
  ⟨rfl, rfl, (by decide : (opcodeCell 0x26#8).operandBytes = some 1)⟩
theorem rolZpX (zz : Byte) : Statement (.rolZpX zz) :=
  ⟨rfl, rfl, (by decide : (opcodeCell 0x36#8).operandBytes = some 1)⟩
theorem rolAbs (hhll : Word) : Statement (.rolAbs hhll) :=
  ⟨rfl, rfl, (by decide : (opcodeCell 0x2E#8).operandBytes = some 2)⟩
theorem rolAbsX (hhll : Word) : Statement (.rolAbsX hhll) :=
  ⟨rfl, rfl, (by decide : (opcodeCell 0x3E#8).operandBytes = some 2)⟩
theorem rorAcc : Statement .rorAcc :=
  ⟨rfl, rfl, (by decide : (opcodeCell 0x6A#8).operandBytes = some 0)⟩
theorem rorZp (zz : Byte) : Statement (.rorZp zz) :=
  ⟨rfl, rfl, (by decide : (opcodeCell 0x66#8).operandBytes = some 1)⟩
theorem rorZpX (zz : Byte) : Statement (.rorZpX zz) :=
  ⟨rfl, rfl, (by decide : (opcodeCell 0x76#8).operandBytes = some 1)⟩
theorem rorAbs (hhll : Word) : Statement (.rorAbs hhll) :=
  ⟨rfl, rfl, (by decide : (opcodeCell 0x6E#8).operandBytes = some 2)⟩
theorem rorAbsX (hhll : Word) : Statement (.rorAbsX hhll) :=
  ⟨rfl, rfl, (by decide : (opcodeCell 0x7E#8).operandBytes = some 2)⟩
theorem incAcc : Statement .incAcc :=
  ⟨rfl, rfl, (by decide : (opcodeCell 0x1A#8).operandBytes = some 0)⟩
theorem incZp (zz : Byte) : Statement (.incZp zz) :=
  ⟨rfl, rfl, (by decide : (opcodeCell 0xE6#8).operandBytes = some 1)⟩
theorem incZpX (zz : Byte) : Statement (.incZpX zz) :=
  ⟨rfl, rfl, (by decide : (opcodeCell 0xF6#8).operandBytes = some 1)⟩
theorem incAbs (hhll : Word) : Statement (.incAbs hhll) :=
  ⟨rfl, rfl, (by decide : (opcodeCell 0xEE#8).operandBytes = some 2)⟩
theorem incAbsX (hhll : Word) : Statement (.incAbsX hhll) :=
  ⟨rfl, rfl, (by decide : (opcodeCell 0xFE#8).operandBytes = some 2)⟩
theorem decAcc : Statement .decAcc :=
  ⟨rfl, rfl, (by decide : (opcodeCell 0x3A#8).operandBytes = some 0)⟩
theorem decZp (zz : Byte) : Statement (.decZp zz) :=
  ⟨rfl, rfl, (by decide : (opcodeCell 0xC6#8).operandBytes = some 1)⟩
theorem decZpX (zz : Byte) : Statement (.decZpX zz) :=
  ⟨rfl, rfl, (by decide : (opcodeCell 0xD6#8).operandBytes = some 1)⟩
theorem decAbs (hhll : Word) : Statement (.decAbs hhll) :=
  ⟨rfl, rfl, (by decide : (opcodeCell 0xCE#8).operandBytes = some 2)⟩
theorem decAbsX (hhll : Word) : Statement (.decAbsX hhll) :=
  ⟨rfl, rfl, (by decide : (opcodeCell 0xDE#8).operandBytes = some 2)⟩
theorem inx : Statement .inx :=
  ⟨rfl, rfl, (by decide : (opcodeCell 0xE8#8).operandBytes = some 0)⟩
theorem iny : Statement .iny :=
  ⟨rfl, rfl, (by decide : (opcodeCell 0xC8#8).operandBytes = some 0)⟩
theorem dex : Statement .dex :=
  ⟨rfl, rfl, (by decide : (opcodeCell 0xCA#8).operandBytes = some 0)⟩
theorem dey : Statement .dey :=
  ⟨rfl, rfl, (by decide : (opcodeCell 0x88#8).operandBytes = some 0)⟩
theorem cla : Statement .cla :=
  ⟨rfl, rfl, (by decide : (opcodeCell 0x62#8).operandBytes = some 0)⟩
theorem clx : Statement .clx :=
  ⟨rfl, rfl, (by decide : (opcodeCell 0x82#8).operandBytes = some 0)⟩
theorem cly : Statement .cly :=
  ⟨rfl, rfl, (by decide : (opcodeCell 0xC2#8).operandBytes = some 0)⟩
theorem clc : Statement .clc :=
  ⟨rfl, rfl, (by decide : (opcodeCell 0x18#8).operandBytes = some 0)⟩
theorem cld : Statement .cld :=
  ⟨rfl, rfl, (by decide : (opcodeCell 0xD8#8).operandBytes = some 0)⟩
theorem cli : Statement .cli :=
  ⟨rfl, rfl, (by decide : (opcodeCell 0x58#8).operandBytes = some 0)⟩
theorem clv : Statement .clv :=
  ⟨rfl, rfl, (by decide : (opcodeCell 0xB8#8).operandBytes = some 0)⟩
theorem sec : Statement .sec :=
  ⟨rfl, rfl, (by decide : (opcodeCell 0x38#8).operandBytes = some 0)⟩
theorem sed : Statement .sed :=
  ⟨rfl, rfl, (by decide : (opcodeCell 0xF8#8).operandBytes = some 0)⟩
theorem sei : Statement .sei :=
  ⟨rfl, rfl, (by decide : (opcodeCell 0x78#8).operandBytes = some 0)⟩
theorem setT : Statement .setT :=
  ⟨rfl, rfl, (by decide : (opcodeCell 0xF4#8).operandBytes = some 0)⟩
theorem ldaImm (nn : Byte) : Statement (.ldaImm nn) :=
  ⟨rfl, rfl, (by decide : (opcodeCell 0xA9#8).operandBytes = some 1)⟩
theorem ldaZp (zz : Byte) : Statement (.ldaZp zz) :=
  ⟨rfl, rfl, (by decide : (opcodeCell 0xA5#8).operandBytes = some 1)⟩
theorem ldaZpX (zz : Byte) : Statement (.ldaZpX zz) :=
  ⟨rfl, rfl, (by decide : (opcodeCell 0xB5#8).operandBytes = some 1)⟩
theorem ldaInd (zz : Byte) : Statement (.ldaInd zz) :=
  ⟨rfl, rfl, (by decide : (opcodeCell 0xB2#8).operandBytes = some 1)⟩
theorem ldaIndX (zz : Byte) : Statement (.ldaIndX zz) :=
  ⟨rfl, rfl, (by decide : (opcodeCell 0xA1#8).operandBytes = some 1)⟩
theorem ldaIndY (zz : Byte) : Statement (.ldaIndY zz) :=
  ⟨rfl, rfl, (by decide : (opcodeCell 0xB1#8).operandBytes = some 1)⟩
theorem ldaAbs (hhll : Word) : Statement (.ldaAbs hhll) :=
  ⟨rfl, rfl, (by decide : (opcodeCell 0xAD#8).operandBytes = some 2)⟩
theorem ldaAbsX (hhll : Word) : Statement (.ldaAbsX hhll) :=
  ⟨rfl, rfl, (by decide : (opcodeCell 0xBD#8).operandBytes = some 2)⟩
theorem ldaAbsY (hhll : Word) : Statement (.ldaAbsY hhll) :=
  ⟨rfl, rfl, (by decide : (opcodeCell 0xB9#8).operandBytes = some 2)⟩
theorem ldxImm (nn : Byte) : Statement (.ldxImm nn) :=
  ⟨rfl, rfl, (by decide : (opcodeCell 0xA2#8).operandBytes = some 1)⟩
theorem ldxZp (zz : Byte) : Statement (.ldxZp zz) :=
  ⟨rfl, rfl, (by decide : (opcodeCell 0xA6#8).operandBytes = some 1)⟩
theorem ldxZpY (zz : Byte) : Statement (.ldxZpY zz) :=
  ⟨rfl, rfl, (by decide : (opcodeCell 0xB6#8).operandBytes = some 1)⟩
theorem ldxAbs (hhll : Word) : Statement (.ldxAbs hhll) :=
  ⟨rfl, rfl, (by decide : (opcodeCell 0xAE#8).operandBytes = some 2)⟩
theorem ldxAbsY (hhll : Word) : Statement (.ldxAbsY hhll) :=
  ⟨rfl, rfl, (by decide : (opcodeCell 0xBE#8).operandBytes = some 2)⟩
theorem ldyImm (nn : Byte) : Statement (.ldyImm nn) :=
  ⟨rfl, rfl, (by decide : (opcodeCell 0xA0#8).operandBytes = some 1)⟩
theorem ldyZp (zz : Byte) : Statement (.ldyZp zz) :=
  ⟨rfl, rfl, (by decide : (opcodeCell 0xA4#8).operandBytes = some 1)⟩
theorem ldyZpX (zz : Byte) : Statement (.ldyZpX zz) :=
  ⟨rfl, rfl, (by decide : (opcodeCell 0xB4#8).operandBytes = some 1)⟩
theorem ldyAbs (hhll : Word) : Statement (.ldyAbs hhll) :=
  ⟨rfl, rfl, (by decide : (opcodeCell 0xAC#8).operandBytes = some 2)⟩
theorem ldyAbsX (hhll : Word) : Statement (.ldyAbsX hhll) :=
  ⟨rfl, rfl, (by decide : (opcodeCell 0xBC#8).operandBytes = some 2)⟩
theorem staZp (zz : Byte) : Statement (.staZp zz) :=
  ⟨rfl, rfl, (by decide : (opcodeCell 0x85#8).operandBytes = some 1)⟩
theorem staZpX (zz : Byte) : Statement (.staZpX zz) :=
  ⟨rfl, rfl, (by decide : (opcodeCell 0x95#8).operandBytes = some 1)⟩
theorem staInd (zz : Byte) : Statement (.staInd zz) :=
  ⟨rfl, rfl, (by decide : (opcodeCell 0x92#8).operandBytes = some 1)⟩
theorem staIndX (zz : Byte) : Statement (.staIndX zz) :=
  ⟨rfl, rfl, (by decide : (opcodeCell 0x81#8).operandBytes = some 1)⟩
theorem staIndY (zz : Byte) : Statement (.staIndY zz) :=
  ⟨rfl, rfl, (by decide : (opcodeCell 0x91#8).operandBytes = some 1)⟩
theorem staAbs (hhll : Word) : Statement (.staAbs hhll) :=
  ⟨rfl, rfl, (by decide : (opcodeCell 0x8D#8).operandBytes = some 2)⟩
theorem staAbsX (hhll : Word) : Statement (.staAbsX hhll) :=
  ⟨rfl, rfl, (by decide : (opcodeCell 0x9D#8).operandBytes = some 2)⟩
theorem staAbsY (hhll : Word) : Statement (.staAbsY hhll) :=
  ⟨rfl, rfl, (by decide : (opcodeCell 0x99#8).operandBytes = some 2)⟩
theorem stxZp (zz : Byte) : Statement (.stxZp zz) :=
  ⟨rfl, rfl, (by decide : (opcodeCell 0x86#8).operandBytes = some 1)⟩
theorem stxZpY (zz : Byte) : Statement (.stxZpY zz) :=
  ⟨rfl, rfl, (by decide : (opcodeCell 0x96#8).operandBytes = some 1)⟩
theorem stxAbs (hhll : Word) : Statement (.stxAbs hhll) :=
  ⟨rfl, rfl, (by decide : (opcodeCell 0x8E#8).operandBytes = some 2)⟩
theorem styZp (zz : Byte) : Statement (.styZp zz) :=
  ⟨rfl, rfl, (by decide : (opcodeCell 0x84#8).operandBytes = some 1)⟩
theorem styZpX (zz : Byte) : Statement (.styZpX zz) :=
  ⟨rfl, rfl, (by decide : (opcodeCell 0x94#8).operandBytes = some 1)⟩
theorem styAbs (hhll : Word) : Statement (.styAbs hhll) :=
  ⟨rfl, rfl, (by decide : (opcodeCell 0x8C#8).operandBytes = some 2)⟩
theorem stzZp (zz : Byte) : Statement (.stzZp zz) :=
  ⟨rfl, rfl, (by decide : (opcodeCell 0x64#8).operandBytes = some 1)⟩
theorem stzZpX (zz : Byte) : Statement (.stzZpX zz) :=
  ⟨rfl, rfl, (by decide : (opcodeCell 0x74#8).operandBytes = some 1)⟩
theorem stzAbs (hhll : Word) : Statement (.stzAbs hhll) :=
  ⟨rfl, rfl, (by decide : (opcodeCell 0x9C#8).operandBytes = some 2)⟩
theorem stzAbsX (hhll : Word) : Statement (.stzAbsX hhll) :=
  ⟨rfl, rfl, (by decide : (opcodeCell 0x9E#8).operandBytes = some 2)⟩
theorem sax : Statement .sax :=
  ⟨rfl, rfl, (by decide : (opcodeCell 0x22#8).operandBytes = some 0)⟩
theorem say : Statement .say :=
  ⟨rfl, rfl, (by decide : (opcodeCell 0x42#8).operandBytes = some 0)⟩
theorem sxy : Statement .sxy :=
  ⟨rfl, rfl, (by decide : (opcodeCell 0x02#8).operandBytes = some 0)⟩
theorem tax : Statement .tax :=
  ⟨rfl, rfl, (by decide : (opcodeCell 0xAA#8).operandBytes = some 0)⟩
theorem tay : Statement .tay :=
  ⟨rfl, rfl, (by decide : (opcodeCell 0xA8#8).operandBytes = some 0)⟩
theorem tsx : Statement .tsx :=
  ⟨rfl, rfl, (by decide : (opcodeCell 0xBA#8).operandBytes = some 0)⟩
theorem txa : Statement .txa :=
  ⟨rfl, rfl, (by decide : (opcodeCell 0x8A#8).operandBytes = some 0)⟩
theorem txs : Statement .txs :=
  ⟨rfl, rfl, (by decide : (opcodeCell 0x9A#8).operandBytes = some 0)⟩
theorem tya : Statement .tya :=
  ⟨rfl, rfl, (by decide : (opcodeCell 0x98#8).operandBytes = some 0)⟩
theorem st0 (nn : Byte) : Statement (.st0 nn) :=
  ⟨rfl, rfl, (by decide : (opcodeCell 0x03#8).operandBytes = some 1)⟩
theorem st1 (nn : Byte) : Statement (.st1 nn) :=
  ⟨rfl, rfl, (by decide : (opcodeCell 0x13#8).operandBytes = some 1)⟩
theorem st2 (nn : Byte) : Statement (.st2 nn) :=
  ⟨rfl, rfl, (by decide : (opcodeCell 0x23#8).operandBytes = some 1)⟩
theorem tam (mask : Byte) : Statement (.tam mask) :=
  ⟨rfl, rfl, (by decide : (opcodeCell 0x53#8).operandBytes = some 1)⟩
theorem tma (mask : Byte) : Statement (.tma mask) :=
  ⟨rfl, rfl, (by decide : (opcodeCell 0x43#8).operandBytes = some 1)⟩
theorem tii (ssss : Word) (dddd : Word) (llll : Word) : Statement (.tii ssss dddd llll) :=
  ⟨rfl, rfl, (by decide : (opcodeCell 0x73#8).operandBytes = some 6)⟩
theorem tdd (ssss : Word) (dddd : Word) (llll : Word) : Statement (.tdd ssss dddd llll) :=
  ⟨rfl, rfl, (by decide : (opcodeCell 0xC3#8).operandBytes = some 6)⟩
theorem tin (ssss : Word) (dddd : Word) (llll : Word) : Statement (.tin ssss dddd llll) :=
  ⟨rfl, rfl, (by decide : (opcodeCell 0xD3#8).operandBytes = some 6)⟩
theorem tia (ssss : Word) (dddd : Word) (llll : Word) : Statement (.tia ssss dddd llll) :=
  ⟨rfl, rfl, (by decide : (opcodeCell 0xE3#8).operandBytes = some 6)⟩
theorem tai (ssss : Word) (dddd : Word) (llll : Word) : Statement (.tai ssss dddd llll) :=
  ⟨rfl, rfl, (by decide : (opcodeCell 0xF3#8).operandBytes = some 6)⟩
theorem bbr0 (zz : Byte) (rr : Byte) : Statement (.bbr0 zz rr) :=
  ⟨rfl, rfl, (by decide : (opcodeCell 0x0F#8).operandBytes = some 2)⟩
theorem bbr1 (zz : Byte) (rr : Byte) : Statement (.bbr1 zz rr) :=
  ⟨rfl, rfl, (by decide : (opcodeCell 0x1F#8).operandBytes = some 2)⟩
theorem bbr2 (zz : Byte) (rr : Byte) : Statement (.bbr2 zz rr) :=
  ⟨rfl, rfl, (by decide : (opcodeCell 0x2F#8).operandBytes = some 2)⟩
theorem bbr3 (zz : Byte) (rr : Byte) : Statement (.bbr3 zz rr) :=
  ⟨rfl, rfl, (by decide : (opcodeCell 0x3F#8).operandBytes = some 2)⟩
theorem bbr4 (zz : Byte) (rr : Byte) : Statement (.bbr4 zz rr) :=
  ⟨rfl, rfl, (by decide : (opcodeCell 0x4F#8).operandBytes = some 2)⟩
theorem bbr5 (zz : Byte) (rr : Byte) : Statement (.bbr5 zz rr) :=
  ⟨rfl, rfl, (by decide : (opcodeCell 0x5F#8).operandBytes = some 2)⟩
theorem bbr6 (zz : Byte) (rr : Byte) : Statement (.bbr6 zz rr) :=
  ⟨rfl, rfl, (by decide : (opcodeCell 0x6F#8).operandBytes = some 2)⟩
theorem bbr7 (zz : Byte) (rr : Byte) : Statement (.bbr7 zz rr) :=
  ⟨rfl, rfl, (by decide : (opcodeCell 0x7F#8).operandBytes = some 2)⟩
theorem bbs0 (zz : Byte) (rr : Byte) : Statement (.bbs0 zz rr) :=
  ⟨rfl, rfl, (by decide : (opcodeCell 0x8F#8).operandBytes = some 2)⟩
theorem bbs1 (zz : Byte) (rr : Byte) : Statement (.bbs1 zz rr) :=
  ⟨rfl, rfl, (by decide : (opcodeCell 0x9F#8).operandBytes = some 2)⟩
theorem bbs2 (zz : Byte) (rr : Byte) : Statement (.bbs2 zz rr) :=
  ⟨rfl, rfl, (by decide : (opcodeCell 0xAF#8).operandBytes = some 2)⟩
theorem bbs3 (zz : Byte) (rr : Byte) : Statement (.bbs3 zz rr) :=
  ⟨rfl, rfl, (by decide : (opcodeCell 0xBF#8).operandBytes = some 2)⟩
theorem bbs4 (zz : Byte) (rr : Byte) : Statement (.bbs4 zz rr) :=
  ⟨rfl, rfl, (by decide : (opcodeCell 0xCF#8).operandBytes = some 2)⟩
theorem bbs5 (zz : Byte) (rr : Byte) : Statement (.bbs5 zz rr) :=
  ⟨rfl, rfl, (by decide : (opcodeCell 0xDF#8).operandBytes = some 2)⟩
theorem bbs6 (zz : Byte) (rr : Byte) : Statement (.bbs6 zz rr) :=
  ⟨rfl, rfl, (by decide : (opcodeCell 0xEF#8).operandBytes = some 2)⟩
theorem bbs7 (zz : Byte) (rr : Byte) : Statement (.bbs7 zz rr) :=
  ⟨rfl, rfl, (by decide : (opcodeCell 0xFF#8).operandBytes = some 2)⟩
theorem bcc (rr : Byte) : Statement (.bcc rr) :=
  ⟨rfl, rfl, (by decide : (opcodeCell 0x90#8).operandBytes = some 1)⟩
theorem bcs (rr : Byte) : Statement (.bcs rr) :=
  ⟨rfl, rfl, (by decide : (opcodeCell 0xB0#8).operandBytes = some 1)⟩
theorem beq (rr : Byte) : Statement (.beq rr) :=
  ⟨rfl, rfl, (by decide : (opcodeCell 0xF0#8).operandBytes = some 1)⟩
theorem bmi (rr : Byte) : Statement (.bmi rr) :=
  ⟨rfl, rfl, (by decide : (opcodeCell 0x30#8).operandBytes = some 1)⟩
theorem bne (rr : Byte) : Statement (.bne rr) :=
  ⟨rfl, rfl, (by decide : (opcodeCell 0xD0#8).operandBytes = some 1)⟩
theorem bpl (rr : Byte) : Statement (.bpl rr) :=
  ⟨rfl, rfl, (by decide : (opcodeCell 0x10#8).operandBytes = some 1)⟩
theorem bra (rr : Byte) : Statement (.bra rr) :=
  ⟨rfl, rfl, (by decide : (opcodeCell 0x80#8).operandBytes = some 1)⟩
theorem bvc (rr : Byte) : Statement (.bvc rr) :=
  ⟨rfl, rfl, (by decide : (opcodeCell 0x50#8).operandBytes = some 1)⟩
theorem bvs (rr : Byte) : Statement (.bvs rr) :=
  ⟨rfl, rfl, (by decide : (opcodeCell 0x70#8).operandBytes = some 1)⟩
theorem jmpAbs (hhll : Word) : Statement (.jmpAbs hhll) :=
  ⟨rfl, rfl, (by decide : (opcodeCell 0x4C#8).operandBytes = some 2)⟩
theorem jmpAbsInd (hhll : Word) : Statement (.jmpAbsInd hhll) :=
  ⟨rfl, rfl, (by decide : (opcodeCell 0x6C#8).operandBytes = some 2)⟩
theorem jmpAbsXInd (hhll : Word) : Statement (.jmpAbsXInd hhll) :=
  ⟨rfl, rfl, (by decide : (opcodeCell 0x7C#8).operandBytes = some 2)⟩
theorem bsr (rr : Byte) : Statement (.bsr rr) :=
  ⟨rfl, rfl, (by decide : (opcodeCell 0x44#8).operandBytes = some 1)⟩
theorem jsr (hhll : Word) : Statement (.jsr hhll) :=
  ⟨rfl, rfl, (by decide : (opcodeCell 0x20#8).operandBytes = some 2)⟩
theorem pha : Statement .pha :=
  ⟨rfl, rfl, (by decide : (opcodeCell 0x48#8).operandBytes = some 0)⟩
theorem php : Statement .php :=
  ⟨rfl, rfl, (by decide : (opcodeCell 0x08#8).operandBytes = some 0)⟩
theorem phx : Statement .phx :=
  ⟨rfl, rfl, (by decide : (opcodeCell 0xDA#8).operandBytes = some 0)⟩
theorem phy : Statement .phy :=
  ⟨rfl, rfl, (by decide : (opcodeCell 0x5A#8).operandBytes = some 0)⟩
theorem pla : Statement .pla :=
  ⟨rfl, rfl, (by decide : (opcodeCell 0x68#8).operandBytes = some 0)⟩
theorem plp : Statement .plp :=
  ⟨rfl, rfl, (by decide : (opcodeCell 0x28#8).operandBytes = some 0)⟩
theorem plx : Statement .plx :=
  ⟨rfl, rfl, (by decide : (opcodeCell 0xFA#8).operandBytes = some 0)⟩
theorem ply : Statement .ply :=
  ⟨rfl, rfl, (by decide : (opcodeCell 0x7A#8).operandBytes = some 0)⟩
theorem rti : Statement .rti :=
  ⟨rfl, rfl, (by decide : (opcodeCell 0x40#8).operandBytes = some 0)⟩
theorem rts : Statement .rts :=
  ⟨rfl, rfl, (by decide : (opcodeCell 0x60#8).operandBytes = some 0)⟩
theorem bitImm (nn : Byte) : Statement (.bitImm nn) :=
  ⟨rfl, rfl, (by decide : (opcodeCell 0x89#8).operandBytes = some 1)⟩
theorem bitZp (zz : Byte) : Statement (.bitZp zz) :=
  ⟨rfl, rfl, (by decide : (opcodeCell 0x24#8).operandBytes = some 1)⟩
theorem bitZpX (zz : Byte) : Statement (.bitZpX zz) :=
  ⟨rfl, rfl, (by decide : (opcodeCell 0x34#8).operandBytes = some 1)⟩
theorem bitAbs (hhll : Word) : Statement (.bitAbs hhll) :=
  ⟨rfl, rfl, (by decide : (opcodeCell 0x2C#8).operandBytes = some 2)⟩
theorem bitAbsX (hhll : Word) : Statement (.bitAbsX hhll) :=
  ⟨rfl, rfl, (by decide : (opcodeCell 0x3C#8).operandBytes = some 2)⟩
theorem trbZp (zz : Byte) : Statement (.trbZp zz) :=
  ⟨rfl, rfl, (by decide : (opcodeCell 0x14#8).operandBytes = some 1)⟩
theorem trbAbs (hhll : Word) : Statement (.trbAbs hhll) :=
  ⟨rfl, rfl, (by decide : (opcodeCell 0x1C#8).operandBytes = some 2)⟩
theorem tsbZp (zz : Byte) : Statement (.tsbZp zz) :=
  ⟨rfl, rfl, (by decide : (opcodeCell 0x04#8).operandBytes = some 1)⟩
theorem tsbAbs (hhll : Word) : Statement (.tsbAbs hhll) :=
  ⟨rfl, rfl, (by decide : (opcodeCell 0x0C#8).operandBytes = some 2)⟩
theorem tstImmZp (nn : Byte) (zz : Byte) : Statement (.tstImmZp nn zz) :=
  ⟨rfl, rfl, (by decide : (opcodeCell 0x83#8).operandBytes = some 2)⟩
theorem tstImmAbs (nn : Byte) (hhll : Word) : Statement (.tstImmAbs nn hhll) :=
  ⟨rfl, rfl, (by decide : (opcodeCell 0x93#8).operandBytes = some 3)⟩
theorem tstImmZpX (nn : Byte) (zz : Byte) : Statement (.tstImmZpX nn zz) :=
  ⟨rfl, rfl, (by decide : (opcodeCell 0xA3#8).operandBytes = some 2)⟩
theorem tstImmAbsX (nn : Byte) (hhll : Word) : Statement (.tstImmAbsX nn hhll) :=
  ⟨rfl, rfl, (by decide : (opcodeCell 0xB3#8).operandBytes = some 3)⟩
theorem brk : Statement .brk :=
  ⟨rfl, rfl, (by decide : (opcodeCell 0x00#8).operandBytes = some 0)⟩
theorem nop : Statement .nop :=
  ⟨rfl, rfl, (by decide : (opcodeCell 0xEA#8).operandBytes = some 0)⟩
theorem rmb0 (zz : Byte) : Statement (.rmb0 zz) :=
  ⟨rfl, rfl, (by decide : (opcodeCell 0x07#8).operandBytes = some 1)⟩
theorem rmb1 (zz : Byte) : Statement (.rmb1 zz) :=
  ⟨rfl, rfl, (by decide : (opcodeCell 0x17#8).operandBytes = some 1)⟩
theorem rmb2 (zz : Byte) : Statement (.rmb2 zz) :=
  ⟨rfl, rfl, (by decide : (opcodeCell 0x27#8).operandBytes = some 1)⟩
theorem rmb3 (zz : Byte) : Statement (.rmb3 zz) :=
  ⟨rfl, rfl, (by decide : (opcodeCell 0x37#8).operandBytes = some 1)⟩
theorem rmb4 (zz : Byte) : Statement (.rmb4 zz) :=
  ⟨rfl, rfl, (by decide : (opcodeCell 0x47#8).operandBytes = some 1)⟩
theorem rmb5 (zz : Byte) : Statement (.rmb5 zz) :=
  ⟨rfl, rfl, (by decide : (opcodeCell 0x57#8).operandBytes = some 1)⟩
theorem rmb6 (zz : Byte) : Statement (.rmb6 zz) :=
  ⟨rfl, rfl, (by decide : (opcodeCell 0x67#8).operandBytes = some 1)⟩
theorem rmb7 (zz : Byte) : Statement (.rmb7 zz) :=
  ⟨rfl, rfl, (by decide : (opcodeCell 0x77#8).operandBytes = some 1)⟩
theorem smb0 (zz : Byte) : Statement (.smb0 zz) :=
  ⟨rfl, rfl, (by decide : (opcodeCell 0x87#8).operandBytes = some 1)⟩
theorem smb1 (zz : Byte) : Statement (.smb1 zz) :=
  ⟨rfl, rfl, (by decide : (opcodeCell 0x97#8).operandBytes = some 1)⟩
theorem smb2 (zz : Byte) : Statement (.smb2 zz) :=
  ⟨rfl, rfl, (by decide : (opcodeCell 0xA7#8).operandBytes = some 1)⟩
theorem smb3 (zz : Byte) : Statement (.smb3 zz) :=
  ⟨rfl, rfl, (by decide : (opcodeCell 0xB7#8).operandBytes = some 1)⟩
theorem smb4 (zz : Byte) : Statement (.smb4 zz) :=
  ⟨rfl, rfl, (by decide : (opcodeCell 0xC7#8).operandBytes = some 1)⟩
theorem smb5 (zz : Byte) : Statement (.smb5 zz) :=
  ⟨rfl, rfl, (by decide : (opcodeCell 0xD7#8).operandBytes = some 1)⟩
theorem smb6 (zz : Byte) : Statement (.smb6 zz) :=
  ⟨rfl, rfl, (by decide : (opcodeCell 0xE7#8).operandBytes = some 1)⟩
theorem smb7 (zz : Byte) : Statement (.smb7 zz) :=
  ⟨rfl, rfl, (by decide : (opcodeCell 0xF7#8).operandBytes = some 1)⟩
theorem csh : Statement .csh :=
  ⟨rfl, rfl, (by decide : (opcodeCell 0xD4#8).operandBytes = some 0)⟩
theorem csl : Statement .csl :=
  ⟨rfl, rfl, (by decide : (opcodeCell 0x54#8).operandBytes = some 0)⟩

end Sys2Proof.Laws.EncodeLength
end

