-- ==== Sys2Proof/Laws/Shapes.lean ====
section
/-!
SUPPORT. Each shape that instructions share, as the state it leads to: one lemma per shape that says
all it can do, with the bus accesses taken from the state before the instruction.
-/

namespace Sys2Proof.Machine

variable (s : State)

/-- The status after the fetch cleared T. -/
abbrev Flags.fetched (p : Flags) : Flags := { p with t := false }

/-- After a read of the operand, whatever the effect of the instruction then is. -/
theorem State.withOperand_eq (src : Source) (f : State → Byte → State) :
    s.withOperand src f =
      (f { s with p := s.p.fetched, io := (s.operand src).2.io } (s.operand src).1).advance
        src.form.length := by
  unfold State.withOperand
  rw [s.clearT_sameBus.operand_eq rfl rfl]
  rfl

/-- ADC, AND, EOR, ORA with t_in = 0. -/
theorem State.aluT_accumulator (op : Byte → Byte → Flags → Byte × Flags) (src : Source)
    (h : s.p.t = false) :
    s.aluT op src = { s with
      a := (op s.a (s.operand src).1 s.p.fetched).1
      p := (op s.a (s.operand src).1 s.p.fetched).2
      pc := s.pc + BitVec.ofNat 16 src.form.length
      io := (s.operand src).2.io } := by
  unfold State.aluT
  rw [s.clearT_sameBus.operand_eq rfl rfl]
  simp only [h]
  rfl

/-- ADC, AND, EOR, ORA with t_in = 1: the operand, then the byte at `$2000 + X`, then the write. -/
theorem State.aluT_zeroPage (op : Byte → Byte → Flags → Byte × Flags) (src : Source)
    (h : s.p.t = true) :
    let l := (s.operand src).2.memRead (zpAddr s.x)
    let o := op l.1 (s.operand src).1 s.p.fetched
    s.aluT op src = { s with
      p := o.2, pc := s.pc + BitVec.ofNat 16 src.form.length
      mem := (l.2.memWrite (zpAddr s.x) o.1).mem, io := (l.2.memWrite (zpAddr s.x) o.1).io } := by
  intro l o
  have hread : State.SameBus (s.operand src).2 { s.clearT with io := (s.operand src).2.io } :=
    ⟨by simp, by simp, by simp, rfl⟩
  have hwrite : State.SameBus l.2 (State.setP { s.clearT with io := l.2.io } o.2) :=
    ⟨by simp [l], by simp [l], by simp [l], rfl⟩
  unfold State.aluT
  rw [s.clearT_sameBus.operand_eq rfl rfl]
  simp only [h, if_true]
  rw [hread.memRead_eq]
  exact congrArg (fun q => State.advance q _) (hwrite.memWrite_eq (zpAddr s.x) o.1)

/-- The read-modify-write frame on memory. -/
theorem State.rmw_eq (op : Byte → Flags → Byte × Flags) (ea : Ea) :
    let m := (s.effAddr ea).2.memRead (s.effAddr ea).1
    let o := op m.1 s.p.fetched
    s.rmw op ea = { s with
      p := o.2, pc := s.pc + BitVec.ofNat 16 (1 + ea.size)
      mem := (m.2.memWrite (s.effAddr ea).1 o.1).mem
      io := (m.2.memWrite (s.effAddr ea).1 o.1).io } := by
  intro m o
  have hread : State.SameBus (s.effAddr ea).2 { s.clearT with io := (s.effAddr ea).2.io } :=
    ⟨by simp, by simp, by simp, rfl⟩
  have hwrite : State.SameBus m.2 (State.setP { s.clearT with io := m.2.io } o.2) :=
    ⟨by simp [m], by simp [m], by simp [m], rfl⟩
  unfold State.rmw
  rw [s.clearT_sameBus.effAddr_eq rfl rfl]
  simp only []
  rw [hread.memRead_eq]
  exact congrArg (fun q => State.advance q _) (hwrite.memWrite_eq (s.effAddr ea).1 o.1)

/-- A store. -/
theorem State.storeTo_eq (ea : Ea) (v : Byte) :
    s.storeTo ea v = { s with
      p := s.p.fetched, pc := s.pc + BitVec.ofNat 16 (1 + ea.size)
      mem := ((s.effAddr ea).2.memWrite (s.effAddr ea).1 v).mem
      io := ((s.effAddr ea).2.memWrite (s.effAddr ea).1 v).io } := by
  have hwrite : State.SameBus (s.effAddr ea).2 { s.clearT with io := (s.effAddr ea).2.io } :=
    ⟨by simp, by simp, by simp, rfl⟩
  unfold State.storeTo
  rw [s.clearT_sameBus.effAddr_eq rfl rfl]
  simp only []
  rw [hwrite.memWrite_eq]
  rfl

/-- TST. -/
theorem State.testImm_eq (nn : Byte) (ea : Ea) :
    let m := s.operand (.mem ea)
    s.testImm nn ea = { s with
      p := testFlags m.1 (nn &&& m.1) s.p.fetched
      pc := s.pc + BitVec.ofNat 16 (2 + ea.size), io := m.2.io } := by
  intro m
  have hread : State.SameBus (s.effAddr ea).2 { s.clearT with io := (s.effAddr ea).2.io } :=
    ⟨by simp, by simp, by simp, rfl⟩
  unfold State.testImm
  rw [s.clearT_sameBus.effAddr_eq rfl rfl]
  simp only []
  rw [hread.memRead_eq]
  rfl

/-- A relative branch. -/
theorem State.branchIf_eq (cond : Bool) (rr : Byte) :
    s.branchIf cond rr = { s with
      p := s.p.fetched, pc := if cond then relTarget (s.pc + 2) rr else s.pc + 2 } := by
  cases cond <;> rfl

/-- BBRi and BBSi. -/
theorem State.branchOnBit_eq (i : Fin 8) (want : Bool) (zz rr : Byte) :
    let m := s.memRead (zpAddr zz)
    s.branchOnBit i want zz rr = { s with
      p := s.p.fetched
      pc := if m.1.getLsbD i.val == want then relTarget (s.pc + 3) rr else s.pc + 3
      io := m.2.io } := by
  intro m
  unfold State.branchOnBit
  simp only []
  rw [s.clearT_sameBus.memRead_eq]
  simp only [m]
  split <;> rfl

/-- JMP through a pointer. -/
theorem State.jumpIndirect_eq (la : Word) :
    let lo := s.memRead la
    let hi := lo.2.memRead (la + 1)
    s.jumpIndirect la = { s with
      p := s.p.fetched, pc := joinBytes hi.1 lo.1, io := hi.2.io } := by
  intro lo hi
  have hread : State.SameBus lo.2 { s.clearT with io := lo.2.io } :=
    ⟨by simp [lo], by simp [lo], by simp [lo], rfl⟩
  unfold State.jumpIndirect State.readWord State.readPair
  simp only []
  rw [s.clearT_sameBus.memRead_eq]
  simp only []
  rw [hread.memRead_eq]
  rfl

/-! The stack. -/

/-- A push from a state the bus cannot tell from another. -/
theorem State.SameBus.push_eq {s t : State} (h : State.SameBus s t) (v : Byte) :
    t.push v = { t with
      sp := t.sp - 1, mem := (s.memWrite (stackAddr t.sp) v).mem
      io := (s.memWrite (stackAddr t.sp) v).io } := by
  rw [State.push_eq, h.memWrite_eq]

/-- A pull from a state the bus cannot tell from another. -/
theorem State.SameBus.pull_eq {s t : State} (h : State.SameBus s t) :
    t.pull = ((s.memRead (stackAddr (t.sp + 1))).1,
      { t with sp := t.sp + 1, io := (s.memRead (stackAddr (t.sp + 1))).2.io }) := by
  have hs : State.SameBus s (t.setSp (t.sp + 1)) := ⟨h.mem, h.platform, h.mpr, h.io⟩
  unfold State.pull
  rw [hs.memRead_eq]
  rfl

/-- A word pushed: the high byte at `$2100 + S`, the low byte below it. -/
theorem State.SameBus.pushWord_eq {s t : State} (h : State.SameBus s t) (w : Word) :
    let u := (s.memWrite (stackAddr t.sp) (hiByte w)).memWrite (stackAddr (t.sp - 1)) (loByte w)
    t.pushWord w = { t with sp := t.sp - 2, mem := u.mem, io := u.io } := by
  intro u
  have h1 := h.push_eq (hiByte w)
  have hnext : State.SameBus (s.memWrite (stackAddr t.sp) (hiByte w)) (t.push (hiByte w)) :=
    ⟨by rw [h1], by simp [h.platform], by simp [h.mpr], by rw [h1]⟩
  unfold State.pushWord
  rw [hnext.push_eq, State.push_sp, h1, show t.sp - 1 - 1 = t.sp - 2 by bv_omega]

/-- A word pulled: the low byte one above S, the high byte two above it. -/
theorem State.SameBus.pullWord_eq {s t : State} (h : State.SameBus s t) :
    let lo := s.memRead (stackAddr (t.sp + 1))
    let hi := lo.2.memRead (stackAddr (t.sp + 2))
    t.pullWord = (joinBytes hi.1 lo.1, { t with sp := t.sp + 2, io := hi.2.io }) := by
  intro lo hi
  have hnext : State.SameBus lo.2 { t with sp := t.sp + 1, io := lo.2.io } :=
    ⟨by simp [lo, h.mem], by simp [lo, h.platform], by simp [lo, h.mpr], rfl⟩
  unfold State.pullWord
  rw [h.pull_eq]
  simp only []
  rw [hnext.pull_eq]
  simp only [show t.sp + 1 + 1 = t.sp + 2 by bv_omega]
  rfl

/-- A push instruction. -/
theorem State.pushInstr_eq (v : State → Byte) :
    let w := s.memWrite (stackAddr s.sp) (v s.clearT)
    s.pushInstr v = { s with
      p := s.p.fetched, sp := s.sp - 1, pc := s.pc + 1, mem := w.mem, io := w.io } := by
  intro w
  unfold State.pushInstr
  rw [s.clearT_sameBus.push_eq]
  rfl

/-- A pull instruction, whatever it does with the byte. -/
theorem State.pullInstr_eq (f : State → Byte → State) :
    let m := s.memRead (stackAddr (s.sp + 1))
    s.pullInstr f =
      (f { s with p := s.p.fetched, sp := s.sp + 1, io := m.2.io } m.1).advance 1 := by
  intro m
  unfold State.pullInstr
  rw [s.clearT_sameBus.pull_eq]
  rfl

/-- BSR and JSR. -/
theorem State.call_eq (last target : Word) :
    let w := (s.memWrite (stackAddr s.sp) (hiByte last)).memWrite (stackAddr (s.sp - 1)) (loByte last)
    s.call last target = { s with
      p := s.p.fetched, sp := s.sp - 2, pc := target, mem := w.mem, io := w.io } := by
  intro w
  unfold State.call
  rw [s.clearT_sameBus.pushWord_eq]
  rfl

/-- RTS. -/
theorem State.returnFromSubroutine_eq :
    let lo := s.memRead (stackAddr (s.sp + 1))
    let hi := lo.2.memRead (stackAddr (s.sp + 2))
    s.returnFromSubroutine = { s with
      p := s.p.fetched, sp := s.sp + 2, pc := joinBytes hi.1 lo.1 + 1, io := hi.2.io } := by
  intro lo hi
  unfold State.returnFromSubroutine
  rw [s.clearT_sameBus.pullWord_eq]
  rfl

/-- RTI. -/
theorem State.returnFromInterrupt_eq :
    let b := s.memRead (stackAddr (s.sp + 1))
    let lo := b.2.memRead (stackAddr (s.sp + 2))
    let hi := lo.2.memRead (stackAddr (s.sp + 3))
    s.returnFromInterrupt = { s with
      p := flagsOfByte b.1, sp := s.sp + 3, pc := joinBytes hi.1 lo.1, io := hi.2.io } := by
  intro b lo hi
  have hnext : State.SameBus b.2
      (({ s.clearT with sp := s.sp + 1, io := b.2.io } : State).setP (flagsOfByte b.1)) :=
    ⟨by simp [b], by simp [b], by simp [b], rfl⟩
  unfold State.returnFromInterrupt
  rw [s.clearT_sameBus.pull_eq]
  refine (congrArg (fun r : Word × State => State.setPc r.2 r.1) hnext.pullWord_eq).trans ?_
  simp only [State.setP, show s.sp + 1 + 1 = s.sp + 2 by bv_omega,
    show s.sp + 1 + 2 = s.sp + 3 by bv_omega]
  rfl

/-- The entry sequence (60_exceptions.md R520): three writes, then two reads at the vector. -/
theorem State.enterInterrupt_eq (vector ret : Word) (b : Bool) :
    let w := ((s.memWrite (stackAddr s.sp) (hiByte ret)).memWrite (stackAddr (s.sp - 1))
      (loByte ret)).memWrite (stackAddr (s.sp - 2)) (s.p.toByte b)
    let lo := w.memRead vector
    let hi := lo.2.memRead (vector + 1)
    s.enterInterrupt vector b ret = { s with
      pc := joinBytes hi.1 lo.1, sp := s.sp - 3
      p := { s.p with t := false, i := true, d := false }
      intSel := .none, mem := w.mem, io := hi.2.io } := by
  intro w lo hi
  have hself : State.SameBus s s := ⟨rfl, rfl, rfl, rfl⟩
  have h2 := hself.pushWord_eq ret
  have hb2 : State.SameBus ((s.memWrite (stackAddr s.sp) (hiByte ret)).memWrite
      (stackAddr (s.sp - 1)) (loByte ret)) (s.pushWord ret) :=
    ⟨by rw [h2], by rw [h2]; simp, by rw [h2]; simp, by rw [h2]⟩
  have h3 := hb2.push_eq (s.p.toByte b)
  rw [h2] at h3
  simp only [show s.sp - 2 - 1 = s.sp - 3 by bv_omega] at h3
  have hb3 : State.SameBus w
      (({ s with sp := s.sp - 3, mem := w.mem, io := w.io } : State).setP
        { s.p with t := false, i := true, d := false }) :=
    ⟨rfl, by simp [w], by simp [w], rfl⟩
  have hb4 : State.SameBus lo.2
      ({ (({ s with sp := s.sp - 3, mem := w.mem, io := w.io } : State).setP
        { s.p with t := false, i := true, d := false }) with io := lo.2.io } : State) :=
    ⟨by simp [lo], by simp [lo, w], by simp [lo, w], rfl⟩
  unfold State.enterInterrupt State.readWord State.readPair
  simp only []
  rw [h2, h3, hb3.memRead_eq]
  simp only []
  rw [hb4.memRead_eq]
  rfl

/-- The read-modify-write frame on A. -/
theorem State.rmwA_eq (op : Byte → Flags → Byte × Flags) :
    s.rmwA op = { s with
      a := (op s.a s.p.fetched).1, p := (op s.a s.p.fetched).2, pc := s.pc + 1 } := rfl

/-- ST0, ST1 and ST2. -/
theorem State.storeImmediate_eq (pa : PhysAddr) (nn : Byte) :
    s.storeImmediate pa nn = { s with
      p := s.p.fetched, pc := s.pc + 2
      mem := (s.physWrite pa nn).mem, io := (s.physWrite pa nn).io } := by
  unfold State.storeImmediate
  have hmem : (s.clearT.physWrite pa nn).mem = (s.physWrite pa nn).mem := by
    rw [State.physWrite_mem, State.physWrite_mem]
    rfl
  rw [State.physWrite_eq, hmem, State.physWrite_congr s s.clearT pa nn rfl rfl]
  rfl

/-- A block transfer writes memory, the block registers and block $FF; it leaves S, and A, X and Y are
what the three pulls read. -/
theorem State.blockTransfer_eq (src dst : Motion) (ssss dddd llll : Word) :
    ∃ a x y sh dh lh mem io, s.blockTransfer src dst ssss dddd llll = { s with
      a := a, x := x, y := y, p := s.p.fetched, pc := s.pc + 7
      sh := sh, dh := dh, lh := lh, mem := mem, io := io } := by
  obtain ⟨sh, dh, lh, mem, io, h⟩ := State.blockLoop_eq src dst (blockCount llll)
    ((((s.clearT.push s.y).push s.a).push s.x).loadBlockRegs ssss dddd llll) ssss dddd llll false
  let t := s.blockTransfer src dst ssss dddd llll
  refine ⟨t.a, t.x, t.y, t.sh, t.dh, t.lh, t.mem, t.io, ?_⟩
  have hsp : t.sp = s.sp := by
    simp only [t, State.blockTransfer, h]
    simp only [State.advance, State.setX, State.setA, State.setY, State.pull_sp,
      State.loadBlockRegs, State.push_sp, State.clearT]
    bv_omega
  have hrest : t.pc = s.pc + 7 ∧ t.p = s.p.fetched ∧ t.mpr = s.mpr ∧ t.mprLatch = s.mprLatch ∧
      t.speed = s.speed ∧ t.intSel = s.intSel ∧ t.platform = s.platform := by
    simp only [t, State.blockTransfer, h]
    simp [State.advance, State.setX, State.setA, State.setY, State.loadBlockRegs, State.clearT]
  obtain ⟨hpc, hp, hmpr, hlatch, hspeed, hsel, hplat⟩ := hrest
  rw [← hsp, ← hpc, ← hp, ← hmpr, ← hlatch, ← hspeed, ← hsel, ← hplat]

/-- RESET leaves memory, the platform, the pins and the schedule as the reads of its vector do, and
gives every item of 10_state.md R55 its value. -/
theorem State.systemReset_eq :
    ∃ pc io, s.systemReset = { s.resetRegisters with pc := pc, io := io } := by
  have h := State.io_trans (s.resetRegisters.physRead_eq 0x001FFE#21)
    ((s.resetRegisters.physRead 0x001FFE#21).2.physRead_eq 0x001FFF#21)
  exact ⟨_, _, (congrArg (State.setPc · s.systemReset.pc) h).trans rfl⟩

end Sys2Proof.Machine
end

