-- ==== Sys2Proof/Laws/Timing.lean ====
section
/-!
SUPPORT. What the further cycles of a block transfer from or to the HuC6270 can be: a sum over its bytes,
each at the addresses `motionAt` gives (70_reset_and_hazards.md R622 (e)).
-/

namespace Sys2Proof.Machine

variable (s : State) (src dst : Motion)

/-- The base of byte `k` of a block transfer. -/
def motionBase (m : Motion) (base : Word) (k : Nat) : Word :=
  match m with
  | .increment => base + BitVec.ofNat 16 k
  | .decrement => base - BitVec.ofNat 16 k
  | .fixed => base
  | .alternate => base

theorem motionBase_zero (m : Motion) (base : Word) : motionBase m base 0 = base := by
  cases m <;> simp [motionBase]

theorem motionNext_motionBase (m : Motion) (base : Word) (k : Nat) :
    motionNext m (motionBase m base k) = motionBase m base (k + 1) := by
  cases m <;> simp only [motionNext, motionBase, BitVec.ofNat_add] <;> bv_omega

theorem motionAddr_motionBase (m : Motion) (base : Word) (k : Nat) :
    motionAddr m (motionBase m base k) (k % 2 == 1) = motionAt m base k := by
  cases m <;> simp [motionAddr, motionBase, motionAt]

/-- The physical addresses $1FE000 to $1FE3FF select the HuC6270, and no others do (20_memory.md R104). -/
theorem busTarget_eq_huc6270 (pa : PhysAddr) :
    busTarget pa = .huc6270 ↔ 0x1FE000 ≤ pa.toNat ∧ pa.toNat < 0x1FE400 := by
  unfold busTarget blockFFBase
  generalize pa.toNat = n
  dsimp only
  constructor
  · intro h
    by_contra hn
    revert h
    split_ifs <;> intro h <;> first | contradiction | omega
  · intro h
    rw [if_neg (by omega), if_pos h.2]

theorem State.selectsVdc_eq (la : Word) : s.selectsVdc la =
    decide (0x1FE000 ≤ (s.translate la).toNat ∧ (s.translate la).toNat < 0x1FE400) := by
  rw [Bool.eq_iff_iff, decide_eq_true_iff, State.selectsVdc, beq_iff_eq, busTarget_eq_huc6270]

/-- A byte takes further cycles exactly where its source or its destination is the HuC6270. -/
theorem State.vdcByteCycles_eq_zero (left : Nat) (source target : Word) :
    s.vdcByteCycles left source target = 0 ↔
      (s.selectsVdc source || s.selectsVdc target) = false := by
  unfold State.vdcByteCycles
  cases s.selectsVdc source || s.selectsVdc target <;> simp

/-- The further cycles from byte `k` on are those of the `n` bytes `k`, `k + 1`, … -/
theorem State.vdcBlockCycles_eq (ssss dddd : Word) (n k : Nat) :
    s.vdcBlockCycles src dst n (motionBase src ssss k) (motionBase dst dddd k) (k % 2 == 1) =
      ((List.range' k n).map fun j =>
        s.vdcByteCycles (k + n - 1 - j) (motionAt src ssss j) (motionAt dst dddd j)).sum := by
  induction n generalizing k with
  | zero => rfl
  | succ n ih =>
    have hphase : (!(k % 2 == 1)) = ((k + 1) % 2 == 1) := by
      rcases Nat.mod_two_eq_zero_or_one k with h | h <;> simp [h, Nat.add_mod]
    rw [State.vdcBlockCycles, motionAddr_motionBase, motionAddr_motionBase, motionNext_motionBase,
      motionNext_motionBase, hphase, ih, List.range'_succ, List.map_cons, List.sum_cons]
    have hleft : k + (n + 1) - 1 - k = n := by omega
    have hsame : k + 1 + n - 1 = k + (n + 1) - 1 := by omega
    rw [hleft, hsame]

/-- The further cycles of a whole block transfer. -/
theorem State.vdcBlockCycles_all (ssss dddd : Word) (n : Nat) :
    s.vdcBlockCycles src dst n ssss dddd false =
      ((List.range n).map fun j =>
        s.vdcByteCycles (n - 1 - j) (motionAt src ssss j) (motionAt dst dddd j)).sum := by
  have h := s.vdcBlockCycles_eq src dst ssss dddd n 0
  rw [motionBase_zero, motionBase_zero] at h
  simpa [List.range_eq_range'] using h

/-- Only a block transfer takes further cycles. -/
theorem vdcCycles_of_no_motion (m : Mnemonic) (f : Form) (h : blockMotions m = none) :
    vdcCycles m f s = 0 := by
  simp [vdcCycles, h]

end Sys2Proof.Machine
end

