-- ==== Sys2Proof/Tests/Slice0.lean ====
section
/-!
SUPPORT. Tests: ill-formed terms, one word of every row of the opcode table, one-step vectors of
spec/95_test_vectors.md, and the witnesses of the obligations' hypotheses.
-/

open Sys2Proof Sys2Proof.Machine

namespace Sys2Proof.Tests

/-! Well-formedness: the one check refuses TMA with two or more mask bits. -/

theorem test_wf_tma_two_bits : (Instr.tma 0x03).wf = false := by decide

theorem test_wf_tma_all_bits : (Instr.tma 0xFF).wf = false := by decide

theorem test_wf_tma_one_bit : (Instr.tma 0x80).wf = true ∧ (Instr.tma 0x00).wf = true := by decide

/-! Decoding. -/

/-- `TAM #$41` bit by bit: opcode 0101 0011, mask 0100 0001 (30_encoding.md R154). -/
theorem test_bits_tam : decodeTableWord 16 0b0100000101010011 = some (.tam 0x41) := by decide

/-- `BBS3 $10,*-128` bit by bit: 1011 1111, 0001 0000, 1000 0000 (30_encoding.md R160). -/
theorem test_bits_bbs3 : decodeTableWord 24 0b100000000001000010111111 = some (.bbs3 0x10 0x80) := by
  decide

/-- `JMP $1234` bit by bit: 0100 1100, low byte 0011 0100, high byte 0001 0010 (30_encoding.md R164). -/
theorem test_bits_jmp : decodeTableWord 24 0b000100100011010001001100 = some (.jmpAbs 0x1234) := by
  decide

/-- An undefined opcode byte decodes to nothing. -/
theorem test_decode_undefined : decodeTableWord 8 0xCB = none := by decide

/-- Words of 40_alu_arith_logic.md, laid out by the formats of 30_encoding.md R152 to R173. -/
def wordsArith1 : List (Nat × Nat × Instr) :=
  [(16, 0x1201, .oraIndX 0x12), (16, 0x1205, .oraZp 0x12), (16, 0x3409, .oraImm 0x34),
   (24, 0x56780D, .oraAbs 0x5678), (16, 0x1211, .oraIndY 0x12), (16, 0x1212, .oraInd 0x12),
   (16, 0x1215, .oraZpX 0x12), (24, 0x567819, .oraAbsY 0x5678), (24, 0x56781D, .oraAbsX 0x5678),
   (16, 0x1221, .andIndX 0x12), (16, 0x1225, .andZp 0x12), (16, 0x3429, .andImm 0x34),
   (24, 0x56782D, .andAbs 0x5678), (16, 0x1231, .andIndY 0x12), (16, 0x1232, .andInd 0x12),
   (16, 0x1235, .andZpX 0x12), (24, 0x567839, .andAbsY 0x5678), (24, 0x56783D, .andAbsX 0x5678),
   (16, 0x1241, .eorIndX 0x12), (16, 0x1245, .eorZp 0x12), (16, 0x3449, .eorImm 0x34),
   (24, 0x56784D, .eorAbs 0x5678), (16, 0x1251, .eorIndY 0x12), (16, 0x1252, .eorInd 0x12)]

theorem test_decode_arith1 :
    ∀ r ∈ wordsArith1, decodeTableWord r.1 r.2.1 = some r.2.2 := by decide

/-- Words of 40_alu_arith_logic.md, laid out by the formats of 30_encoding.md R152 to R173. -/
def wordsArith2 : List (Nat × Nat × Instr) :=
  [(16, 0x1255, .eorZpX 0x12), (24, 0x567859, .eorAbsY 0x5678), (24, 0x56785D, .eorAbsX 0x5678),
   (16, 0x1261, .adcIndX 0x12), (16, 0x1265, .adcZp 0x12), (16, 0x3469, .adcImm 0x34),
   (24, 0x56786D, .adcAbs 0x5678), (16, 0x1271, .adcIndY 0x12), (16, 0x1272, .adcInd 0x12),
   (16, 0x1275, .adcZpX 0x12), (24, 0x567879, .adcAbsY 0x5678), (24, 0x56787D, .adcAbsX 0x5678),
   (16, 0x34C0, .cpyImm 0x34), (16, 0x12C1, .cmpIndX 0x12), (16, 0x12C4, .cpyZp 0x12),
   (16, 0x12C5, .cmpZp 0x12), (16, 0x34C9, .cmpImm 0x34), (24, 0x5678CC, .cpyAbs 0x5678),
   (24, 0x5678CD, .cmpAbs 0x5678), (16, 0x12D1, .cmpIndY 0x12), (16, 0x12D2, .cmpInd 0x12),
   (16, 0x12D5, .cmpZpX 0x12), (24, 0x5678D9, .cmpAbsY 0x5678), (24, 0x5678DD, .cmpAbsX 0x5678)]

theorem test_decode_arith2 :
    ∀ r ∈ wordsArith2, decodeTableWord r.1 r.2.1 = some r.2.2 := by decide

/-- Words of 40_alu_arith_logic.md, laid out by the formats of 30_encoding.md R152 to R173. -/
def wordsArith3 : List (Nat × Nat × Instr) :=
  [(16, 0x34E0, .cpxImm 0x34), (16, 0x12E1, .sbcIndX 0x12), (16, 0x12E4, .cpxZp 0x12),
   (16, 0x12E5, .sbcZp 0x12), (16, 0x34E9, .sbcImm 0x34), (24, 0x5678EC, .cpxAbs 0x5678),
   (24, 0x5678ED, .sbcAbs 0x5678), (16, 0x12F1, .sbcIndY 0x12), (16, 0x12F2, .sbcInd 0x12),
   (16, 0x12F5, .sbcZpX 0x12), (24, 0x5678F9, .sbcAbsY 0x5678), (24, 0x5678FD, .sbcAbsX 0x5678)]

theorem test_decode_arith3 :
    ∀ r ∈ wordsArith3, decodeTableWord r.1 r.2.1 = some r.2.2 := by decide

/-- Words of 41_alu_shift_incdec.md, laid out by the formats of 30_encoding.md R152 to R173. -/
def wordsShift1 : List (Nat × Nat × Instr) :=
  [(16, 0x1206, .aslZp 0x12), (8, 0x0A, .aslAcc), (24, 0x56780E, .aslAbs 0x5678),
   (16, 0x1216, .aslZpX 0x12), (8, 0x1A, .incAcc), (24, 0x56781E, .aslAbsX 0x5678),
   (16, 0x1226, .rolZp 0x12), (8, 0x2A, .rolAcc), (24, 0x56782E, .rolAbs 0x5678),
   (16, 0x1236, .rolZpX 0x12), (8, 0x3A, .decAcc), (24, 0x56783E, .rolAbsX 0x5678),
   (16, 0x1246, .lsrZp 0x12), (8, 0x4A, .lsrAcc), (24, 0x56784E, .lsrAbs 0x5678),
   (16, 0x1256, .lsrZpX 0x12), (24, 0x56785E, .lsrAbsX 0x5678), (8, 0x62, .cla),
   (16, 0x1266, .rorZp 0x12), (8, 0x6A, .rorAcc), (24, 0x56786E, .rorAbs 0x5678),
   (16, 0x1276, .rorZpX 0x12), (24, 0x56787E, .rorAbsX 0x5678), (8, 0x82, .clx)]

theorem test_decode_shift1 :
    ∀ r ∈ wordsShift1, decodeTableWord r.1 r.2.1 = some r.2.2 := by decide

/-- Words of 41_alu_shift_incdec.md, laid out by the formats of 30_encoding.md R152 to R173. -/
def wordsShift2 : List (Nat × Nat × Instr) :=
  [(8, 0x88, .dey), (8, 0xC2, .cly), (16, 0x12C6, .decZp 0x12), (8, 0xC8, .iny), (8, 0xCA, .dex),
   (24, 0x5678CE, .decAbs 0x5678), (16, 0x12D6, .decZpX 0x12), (24, 0x5678DE, .decAbsX 0x5678),
   (16, 0x12E6, .incZp 0x12), (8, 0xE8, .inx), (24, 0x5678EE, .incAbs 0x5678),
   (16, 0x12F6, .incZpX 0x12), (24, 0x5678FE, .incAbsX 0x5678)]

theorem test_decode_shift2 :
    ∀ r ∈ wordsShift2, decodeTableWord r.1 r.2.1 = some r.2.2 := by decide

/-- Words of 42_flag.md, laid out by the formats of 30_encoding.md R152 to R173. -/
def wordsFlag : List (Nat × Nat × Instr) :=
  [(8, 0x18, .clc), (8, 0x38, .sec), (8, 0x58, .cli), (8, 0x78, .sei), (8, 0xB8, .clv),
   (8, 0xD8, .cld), (8, 0xF4, .setT), (8, 0xF8, .sed)]

theorem test_decode_flag :
    ∀ r ∈ wordsFlag, decodeTableWord r.1 r.2.1 = some r.2.2 := by decide

/-- Words of 43_data_transfer.md, laid out by the formats of 30_encoding.md R152 to R173. -/
def wordsTransfer1 : List (Nat × Nat × Instr) :=
  [(8, 0x02, .sxy), (16, 0x3403, .st0 0x34), (16, 0x3413, .st1 0x34), (8, 0x22, .sax),
   (16, 0x3423, .st2 0x34), (8, 0x42, .say), (16, 0x4043, .tma 0x40), (16, 0x4053, .tam 0x40),
   (16, 0x1264, .stzZp 0x12), (16, 0x1274, .stzZpX 0x12), (16, 0x1281, .staIndX 0x12),
   (16, 0x1284, .styZp 0x12), (16, 0x1285, .staZp 0x12), (16, 0x1286, .stxZp 0x12), (8, 0x8A, .txa),
   (24, 0x56788C, .styAbs 0x5678), (24, 0x56788D, .staAbs 0x5678), (24, 0x56788E, .stxAbs 0x5678),
   (16, 0x1291, .staIndY 0x12), (16, 0x1292, .staInd 0x12), (16, 0x1294, .styZpX 0x12),
   (16, 0x1295, .staZpX 0x12), (16, 0x1296, .stxZpY 0x12), (8, 0x98, .tya)]

theorem test_decode_transfer1 :
    ∀ r ∈ wordsTransfer1, decodeTableWord r.1 r.2.1 = some r.2.2 := by decide

/-- Words of 43_data_transfer.md, laid out by the formats of 30_encoding.md R152 to R173. -/
def wordsTransfer2 : List (Nat × Nat × Instr) :=
  [(24, 0x567899, .staAbsY 0x5678), (8, 0x9A, .txs), (24, 0x56789C, .stzAbs 0x5678),
   (24, 0x56789D, .staAbsX 0x5678), (24, 0x56789E, .stzAbsX 0x5678), (16, 0x34A0, .ldyImm 0x34),
   (16, 0x12A1, .ldaIndX 0x12), (16, 0x34A2, .ldxImm 0x34), (16, 0x12A4, .ldyZp 0x12),
   (16, 0x12A5, .ldaZp 0x12), (16, 0x12A6, .ldxZp 0x12), (8, 0xA8, .tay),
   (16, 0x34A9, .ldaImm 0x34), (8, 0xAA, .tax), (24, 0x5678AC, .ldyAbs 0x5678),
   (24, 0x5678AD, .ldaAbs 0x5678), (24, 0x5678AE, .ldxAbs 0x5678), (16, 0x12B1, .ldaIndY 0x12),
   (16, 0x12B2, .ldaInd 0x12), (16, 0x12B4, .ldyZpX 0x12), (16, 0x12B5, .ldaZpX 0x12),
   (16, 0x12B6, .ldxZpY 0x12), (24, 0x5678B9, .ldaAbsY 0x5678), (8, 0xBA, .tsx)]

theorem test_decode_transfer2 :
    ∀ r ∈ wordsTransfer2, decodeTableWord r.1 r.2.1 = some r.2.2 := by decide

/-- Words of 43_data_transfer.md, laid out by the formats of 30_encoding.md R152 to R173. -/
def wordsTransfer3 : List (Nat × Nat × Instr) :=
  [(24, 0x5678BC, .ldyAbsX 0x5678), (24, 0x5678BD, .ldaAbsX 0x5678),
   (24, 0x5678BE, .ldxAbsY 0x5678)]

theorem test_decode_transfer3 :
    ∀ r ∈ wordsTransfer3, decodeTableWord r.1 r.2.1 = some r.2.2 := by decide

/-- Words of 44_block_transfer.md, laid out by the formats of 30_encoding.md R152 to R173. -/
def wordsBlock : List (Nat × Nat × Instr) :=
  [(56, 0x50034002300173, .tii 0x3001 0x4002 0x5003),
   (56, 0x500340023001C3, .tdd 0x3001 0x4002 0x5003),
   (56, 0x500340023001D3, .tin 0x3001 0x4002 0x5003),
   (56, 0x500340023001E3, .tia 0x3001 0x4002 0x5003),
   (56, 0x500340023001F3, .tai 0x3001 0x4002 0x5003)]

theorem test_decode_block :
    ∀ r ∈ wordsBlock, decodeTableWord r.1 r.2.1 = some r.2.2 := by decide

/-- Words of 45_branch.md, laid out by the formats of 30_encoding.md R152 to R173. -/
def wordsBranch1 : List (Nat × Nat × Instr) :=
  [(24, 0xFE120F, .bbr0 0x12 0xFE), (16, 0xFE10, .bpl 0xFE), (24, 0xFE121F, .bbr1 0x12 0xFE),
   (24, 0xFE122F, .bbr2 0x12 0xFE), (16, 0xFE30, .bmi 0xFE), (24, 0xFE123F, .bbr3 0x12 0xFE),
   (24, 0x56784C, .jmpAbs 0x5678), (24, 0xFE124F, .bbr4 0x12 0xFE), (16, 0xFE50, .bvc 0xFE),
   (24, 0xFE125F, .bbr5 0x12 0xFE), (24, 0x56786C, .jmpAbsInd 0x5678),
   (24, 0xFE126F, .bbr6 0x12 0xFE), (16, 0xFE70, .bvs 0xFE), (24, 0x56787C, .jmpAbsXInd 0x5678),
   (24, 0xFE127F, .bbr7 0x12 0xFE), (16, 0xFE80, .bra 0xFE), (24, 0xFE128F, .bbs0 0x12 0xFE),
   (16, 0xFE90, .bcc 0xFE), (24, 0xFE129F, .bbs1 0x12 0xFE), (24, 0xFE12AF, .bbs2 0x12 0xFE),
   (16, 0xFEB0, .bcs 0xFE), (24, 0xFE12BF, .bbs3 0x12 0xFE), (24, 0xFE12CF, .bbs4 0x12 0xFE),
   (16, 0xFED0, .bne 0xFE)]

theorem test_decode_branch1 :
    ∀ r ∈ wordsBranch1, decodeTableWord r.1 r.2.1 = some r.2.2 := by decide

/-- Words of 45_branch.md, laid out by the formats of 30_encoding.md R152 to R173. -/
def wordsBranch2 : List (Nat × Nat × Instr) :=
  [(24, 0xFE12DF, .bbs5 0x12 0xFE), (24, 0xFE12EF, .bbs6 0x12 0xFE), (16, 0xFEF0, .beq 0xFE),
   (24, 0xFE12FF, .bbs7 0x12 0xFE)]

theorem test_decode_branch2 :
    ∀ r ∈ wordsBranch2, decodeTableWord r.1 r.2.1 = some r.2.2 := by decide

/-- Words of 46_subroutine_stack.md, laid out by the formats of 30_encoding.md R152 to R173. -/
def wordsStack : List (Nat × Nat × Instr) :=
  [(8, 0x08, .php), (24, 0x567820, .jsr 0x5678), (8, 0x28, .plp), (8, 0x40, .rti),
   (16, 0xFE44, .bsr 0xFE), (8, 0x48, .pha), (8, 0x5A, .phy), (8, 0x60, .rts), (8, 0x68, .pla),
   (8, 0x7A, .ply), (8, 0xDA, .phx), (8, 0xFA, .plx)]

theorem test_decode_stack :
    ∀ r ∈ wordsStack, decodeTableWord r.1 r.2.1 = some r.2.2 := by decide

/-- Words of 47_test.md, laid out by the formats of 30_encoding.md R152 to R173. -/
def wordsTest : List (Nat × Nat × Instr) :=
  [(16, 0x1204, .tsbZp 0x12), (24, 0x56780C, .tsbAbs 0x5678), (16, 0x1214, .trbZp 0x12),
   (24, 0x56781C, .trbAbs 0x5678), (16, 0x1224, .bitZp 0x12), (24, 0x56782C, .bitAbs 0x5678),
   (16, 0x1234, .bitZpX 0x12), (24, 0x56783C, .bitAbsX 0x5678), (24, 0x123483, .tstImmZp 0x34 0x12),
   (16, 0x3489, .bitImm 0x34), (32, 0x56783493, .tstImmAbs 0x34 0x5678),
   (24, 0x1234A3, .tstImmZpX 0x34 0x12), (32, 0x567834B3, .tstImmAbsX 0x34 0x5678)]

theorem test_decode_test :
    ∀ r ∈ wordsTest, decodeTableWord r.1 r.2.1 = some r.2.2 := by decide

/-- Words of 48_control.md, laid out by the formats of 30_encoding.md R152 to R173. -/
def wordsControl : List (Nat × Nat × Instr) :=
  [(8, 0x00, .brk), (16, 0x1207, .rmb0 0x12), (16, 0x1217, .rmb1 0x12), (16, 0x1227, .rmb2 0x12),
   (16, 0x1237, .rmb3 0x12), (16, 0x1247, .rmb4 0x12), (8, 0x54, .csl), (16, 0x1257, .rmb5 0x12),
   (16, 0x1267, .rmb6 0x12), (16, 0x1277, .rmb7 0x12), (16, 0x1287, .smb0 0x12),
   (16, 0x1297, .smb1 0x12), (16, 0x12A7, .smb2 0x12), (16, 0x12B7, .smb3 0x12),
   (16, 0x12C7, .smb4 0x12), (8, 0xD4, .csh), (16, 0x12D7, .smb5 0x12), (16, 0x12E7, .smb6 0x12),
   (8, 0xEA, .nop), (16, 0x12F7, .smb7 0x12)]

theorem test_decode_control :
    ∀ r ∈ wordsControl, decodeTableWord r.1 r.2.1 = some r.2.2 := by decide

/-! One step from the initial state of spec/95_test_vectors.md; the expected values are the vectors'. -/

/-- The initial state STD of spec/95_test_vectors.md section 1. -/
def std : State :=
  { State.reset with
    sp := 0xFF, pc := 0xE000
    mpr := { m0 := 0xFF, m1 := 0xF8, m2 := 0xF9, m3 := 0xFA, m4 := 0xFB, m5 := 0x01, m6 := 0x02
             m7 := 0x00 } }

/-- The step that runs an instruction placed at the program counter ends in a state with a property. -/
def check (nbits w : Nat) (s : State) (f : State → Bool) : Bool :=
  match step (s.withFetchWord nbits w) with
  | .next t => f t
  | .fault _ => false
  | .refused _ => false

/-- `std` with RAM at logical `$0000`, below the zero page. -/
def stdLow : State := { std with mpr := { std.mpr with m0 := 0xF9 } }

/-- Bytes placed in memory at rising logical addresses. -/
def put (la : Word) (bytes : List Byte) (s : State) : State := s.placeBytes bytes la

/-- Vector T40-1 (R210). -/
theorem test_adc_t40_1 :
    check 16 0x1069 { std with a := 0xF8 }
      (fun t => decide (t.a = 0x08 ∧ t.pc = 0xE002 ∧ t.p.c = true)) = true := by decide

/-- Vector T40-6 (R210, R203). -/
theorem test_adc_t40_6 :
    check 16 0x2769 { std with a := 0x15, p := { std.p with d := true, v := true } }
      (fun t => decide (t.a = 0x42 ∧ t.pc = 0xE002)) = true := by decide

/-- Vector T40-15 (R210, R201). -/
theorem test_adc_t40_15 :
    check 16 0x2065
      (put 0x2010 [0xF0] (put 0x2020 [0x0F]
        { std with x := 0x10, a := 0x55, p := { std.p with t := true, c := true } }))
      (fun t => decide (t.pc = 0xE002 ∧ t.p.t = false ∧ t.p.z = true ∧
        t.peek (t.translate 0x2010) = 0x00)) = true := by decide

/-- Vector T40-19 (R211). -/
theorem test_and_t40_19 :
    check 16 0x0F29 { std with a := 0xF0, p := { std.p with n := true } }
      (fun t => decide (t.a = 0x00 ∧ t.pc = 0xE002 ∧ t.p.n = false ∧
        t.p.z = true)) = true := by decide

/-- Vector T40-20 (R211, R201). -/
theorem test_and_t40_20 :
    check 16 0x4032
      (put 0x2011 [0xFF] (put 0x2040 [0x00, 0x30] (put 0x3000 [0x81]
        { std with x := 0x11, a := 0xAA, p := { std.p with t := true } })))
      (fun t => decide (t.pc = 0xE002 ∧ t.p.n = true ∧ t.p.t = false ∧
        t.peek (t.translate 0x2011) = 0x81)) = true := by decide

/-- Vector T40-22 (R215). -/
theorem test_eor_t40_22 :
    check 16 0x1045 (put 0x2010 [0x5A] { std with a := 0x5A })
      (fun t => decide (t.a = 0x00 ∧ t.pc = 0xE002 ∧ t.p.z = true)) = true := by decide

/-- Vector T40-23 (R215, R201). -/
theorem test_eor_t40_23 :
    check 16 0xFF49
      (put 0x2000 [0x0F] { std with x := 0x00, a := 0x01, p := { std.p with t := true } })
      (fun t => decide (t.pc = 0xE002 ∧ t.p.n = true ∧ t.p.t = false ∧
        t.peek (t.translate 0x2000) = 0xF0)) = true := by decide

/-- Vector T40-24 (R216). -/
theorem test_ora_t40_24 :
    check 16 0x8009 { std with a := 0x01 }
      (fun t => decide (t.a = 0x81 ∧ t.pc = 0xE002 ∧ t.p.n = true)) = true := by decide

/-- Vector T40-31 (R217). -/
theorem test_sbc_t40_31 :
    check 16 0x00E9 { std with a := 0x80, p := { std.p with c := false } }
      (fun t => decide (t.a = 0x7F ∧ t.pc = 0xE002 ∧ t.p.v = true ∧
        t.p.c = true)) = true := by decide

/-- Vector T40-33 (R217, R205). -/
theorem test_sbc_t40_33 :
    check 16 0x27E9
      { std with a := 0x42, p := { std.p with d := true, c := true, v := true } }
      (fun t => decide (t.a = 0x15 ∧ t.pc = 0xE002)) = true := by decide

/-- Vector T40-39 (R212). -/
theorem test_cmp_t40_39 :
    check 16 0x01C9 { std with a := 0x80, p := { std.p with v := true } }
      (fun t => decide (t.pc = 0xE002 ∧ t.p.c = true)) = true := by decide

/-- Vector T40-40 (R212, R163). -/
theorem test_cmp_t40_40 :
    check 16 0x20D1
      (put 0x2020 [0xFF, 0xFF] (put 0x0000 [0x00] { stdLow with a := 0x10, y := 0x01 }))
      (fun t => decide (t.pc = 0xE002 ∧ t.p.c = true)) = true := by decide

/-- Vector T40-42 (R213). -/
theorem test_cpx_t40_42 :
    check 24 0x3000EC (put 0x3000 [0x01] { std with x := 0x00 })
      (fun t => decide (t.pc = 0xE003 ∧ t.p.n = true)) = true := by decide

/-- Vector T40-44 (R214). -/
theorem test_cpy_t40_44 :
    check 16 0x30C4 (put 0x2030 [0x7F] { std with y := 0xFF })
      (fun t => decide (t.pc = 0xE002 ∧ t.p.n = true ∧ t.p.c = true)) = true := by decide

/-- Vector T41-2 (R241). -/
theorem test_asl_t41_2 :
    check 8 0x0A { std with a := 0x80 }
      (fun t => decide (t.a = 0x00 ∧ t.pc = 0xE001 ∧ t.p.z = true ∧
        t.p.c = true)) = true := by decide

/-- Vector T41-4 (R241, R158). -/
theorem test_asl_t41_4 :
    check 16 0xFF16 (put 0x2001 [0x01] { std with x := 0x02 })
      (fun t => decide (t.pc = 0xE002 ∧ t.peek (t.translate 0x2001) = 0x02)) = true := by decide

/-- Vector T41-5 (R242). -/
theorem test_lsr_t41_5 :
    check 8 0x4A { std with a := 0x03, p := { std.p with n := true } }
      (fun t => decide (t.a = 0x01 ∧ t.pc = 0xE001 ∧ t.p.n = false ∧
        t.p.c = true)) = true := by decide

/-- Vector T41-7 (R242). -/
theorem test_lsr_t41_7 :
    check 24 0x30004E (put 0x3000 [0x80] std)
      (fun t => decide (t.pc = 0xE003 ∧ t.peek (t.translate 0x3000) = 0x40)) = true := by decide

/-- Vector T41-8 (R243). -/
theorem test_rol_t41_8 :
    check 8 0x2A { std with a := 0x40, p := { std.p with c := true } }
      (fun t => decide (t.a = 0x81 ∧ t.pc = 0xE001 ∧ t.p.n = true ∧
        t.p.c = false)) = true := by decide

/-- Vector T41-11 (R244). -/
theorem test_ror_t41_11 :
    check 8 0x6A { std with a := 0x02, p := { std.p with c := true } }
      (fun t => decide (t.a = 0x81 ∧ t.pc = 0xE001 ∧ t.p.n = true ∧
        t.p.c = false)) = true := by decide

/-- Vector T41-13 (R244). -/
theorem test_ror_t41_13 :
    check 24 0x30FF7E
      (put 0x3100 [0x00] { std with x := 0x01, p := { std.p with c := true } })
      (fun t => decide (t.pc = 0xE003 ∧ t.p.n = true ∧ t.p.c = false ∧
        t.peek (t.translate 0x3100) = 0x80)) = true := by decide

/-- Vector T41-14 (R245). -/
theorem test_inc_t41_14 :
    check 8 0x1A { std with a := 0xFF, p := { std.p with c := true } }
      (fun t => decide (t.a = 0x00 ∧ t.pc = 0xE001 ∧ t.p.z = true)) = true := by decide

/-- Vector T41-18 (R246). -/
theorem test_dec_t41_18 :
    check 16 0x10C6 (put 0x2010 [0x01] std)
      (fun t => decide (t.pc = 0xE002 ∧ t.p.z = true ∧
        t.peek (t.translate 0x2010) = 0x00)) = true := by decide

/-- Vector T41-21 (R247). -/
theorem test_inx_t41_21 :
    check 8 0xE8 { std with x := 0x7F }
      (fun t => decide (t.x = 0x80 ∧ t.pc = 0xE001 ∧ t.p.n = true)) = true := by decide

/-- Vector T41-22 (R248). -/
theorem test_iny_t41_22 :
    check 8 0xC8 { std with y := 0x00 }
      (fun t => decide (t.y = 0x01 ∧ t.pc = 0xE001)) = true := by decide

/-- Vector T41-23 (R249). -/
theorem test_dex_t41_23 :
    check 8 0xCA { std with x := 0x00 }
      (fun t => decide (t.x = 0xFF ∧ t.pc = 0xE001 ∧ t.p.n = true)) = true := by decide

/-- Vector T41-25 (R250). -/
theorem test_dey_t41_25 :
    check 8 0x88 { std with y := 0x80, p := { std.p with n := true } }
      (fun t => decide (t.y = 0x7F ∧ t.pc = 0xE001 ∧ t.p.n = false)) = true := by decide

/-- Vector T41-26 (R251). -/
theorem test_cla_t41_26 :
    check 8 0x62 { std with a := 0x5A }
      (fun t => decide (t.a = 0x00 ∧ t.pc = 0xE001)) = true := by decide

/-- Vector T41-27 (R252). -/
theorem test_clx_t41_27 :
    check 8 0x82 { std with x := 0xFF, p := { std.p with n := true } }
      (fun t => decide (t.x = 0x00 ∧ t.pc = 0xE001)) = true := by decide

/-- Vector T41-28 (R253). -/
theorem test_cly_t41_28 :
    check 8 0xC2 { std with y := 0x12 }
      (fun t => decide (t.y = 0x00 ∧ t.pc = 0xE001)) = true := by decide

/-- Vector T42-1 (R280). -/
theorem test_clc_t42_1 :
    check 8 0x18 { std with p := { std.p with c := true } }
      (fun t => decide (t.pc = 0xE001 ∧ t.p.c = false)) = true := by decide

/-- Vector T42-2 (R281). -/
theorem test_cld_t42_2 :
    check 8 0xD8 { std with p := { std.p with d := true } }
      (fun t => decide (t.pc = 0xE001 ∧ t.p.d = false)) = true := by decide

/-- Vector T42-3 (R282). -/
theorem test_cli_t42_3 :
    check 8 0x58 std
      (fun t => decide (t.pc = 0xE001 ∧ t.p.i = false)) = true := by decide

/-- Vector T42-4 (R283). -/
theorem test_clv_t42_4 :
    check 8 0xB8 { std with p := { std.p with v := true } }
      (fun t => decide (t.pc = 0xE001 ∧ t.p.v = false)) = true := by decide

/-- Vector T42-5 (R284). -/
theorem test_sec_t42_5 :
    check 8 0x38 std
      (fun t => decide (t.pc = 0xE001 ∧ t.p.c = true)) = true := by decide

/-- Vector T42-6 (R285). -/
theorem test_sed_t42_6 :
    check 8 0xF8 std
      (fun t => decide (t.pc = 0xE001 ∧ t.p.d = true)) = true := by decide

/-- Vector T42-7 (R286). -/
theorem test_sei_t42_7 :
    check 8 0x78 { std with p := { std.p with i := false } }
      (fun t => decide (t.pc = 0xE001 ∧ t.p.i = true)) = true := by decide

/-- Vector T42-8 (R287). -/
theorem test_set_t42_8 :
    check 8 0xF4 std
      (fun t => decide (t.pc = 0xE001 ∧ t.p.t = true)) = true := by decide

/-- Vector T43-3 (R300, R161). -/
theorem test_lda_t43_3 :
    check 16 0xFFB2 (put 0x20FF [0x34] (put 0x2000 [0x32] (put 0x3234 [0x7E] std)))
      (fun t => decide (t.a = 0x7E ∧ t.pc = 0xE002)) = true := by decide

/-- Vector T43-4 (R300, R166). -/
theorem test_lda_t43_4 :
    check 24 0xFFF0B9 (put 0x0010 [0x99] { stdLow with y := 0x20 })
      (fun t => decide (t.a = 0x99 ∧ t.pc = 0xE003 ∧ t.p.n = true)) = true := by decide

/-- Vector T43-7 (R301, R159). -/
theorem test_ldx_t43_7 :
    check 16 0xF0B6 (put 0x2010 [0xC0] { std with y := 0x20 })
      (fun t => decide (t.x = 0xC0 ∧ t.pc = 0xE002 ∧ t.p.n = true)) = true := by decide

/-- Vector T43-8 (R302). -/
theorem test_ldy_t43_8 :
    check 16 0x10B4 (put 0x2011 [0x7F] { std with x := 0x01 })
      (fun t => decide (t.y = 0x7F ∧ t.pc = 0xE002)) = true := by decide

/-- Vector T43-10 (R303, R540). -/
theorem test_sta_t43_10 :
    check 24 0x10008D { std with a := 0x55 }
      (fun t => decide (t.pc = 0xE003 ∧ t.io.portO = 0x55)) = true := by decide

/-- Vector T43-11 (R303, R163). -/
theorem test_sta_t43_11 :
    check 16 0x2091 (put 0x2020 [0xFF, 0x30] { std with a := 0xAB, y := 0x02 })
      (fun t => decide (t.pc = 0xE002 ∧ t.peek (t.translate 0x3101) = 0xAB)) = true := by decide

/-- Vector T43-14 (R304, R159). -/
theorem test_stx_t43_14 :
    check 16 0x2096 { std with x := 0x12, y := 0x03 }
      (fun t => decide (t.pc = 0xE002 ∧ t.peek (t.translate 0x2023) = 0x12)) = true := by decide

/-- Vector T43-15 (R305). -/
theorem test_sty_t43_15 :
    check 16 0x2094 { std with y := 0x34, x := 0x02 }
      (fun t => decide (t.pc = 0xE002 ∧ t.peek (t.translate 0x2022) = 0x34)) = true := by decide

/-- Vector T43-16 (R306, R502). -/
theorem test_stz_t43_16 :
    check 24 0x14029C
      { std with io := { std.io with idr := { tiqd := true, irq1d := true, irq2d := true } } }
      (fun t => decide (t.pc = 0xE003 ∧ t.io.idr.tiqd = false ∧ t.io.idr.irq1d = false ∧
        t.io.idr.irq2d = false)) = true := by decide

/-- Vector T43-17 (R306). -/
theorem test_stz_t43_17 :
    check 16 0x1074
      (put 0x2011 [0xFF] { std with x := 0x01, p := { std.p with z := false } })
      (fun t => decide (t.pc = 0xE002 ∧ t.peek (t.translate 0x2011) = 0x00)) = true := by decide

/-- Vector T43-18 (R307). -/
theorem test_sax_t43_18 :
    check 8 0x22 { std with a := 0x01, x := 0x02 }
      (fun t => decide (t.a = 0x02 ∧ t.x = 0x01 ∧ t.pc = 0xE001)) = true := by decide

/-- Vector T43-19 (R308). -/
theorem test_say_t43_19 :
    check 8 0x42 { std with a := 0x01, y := 0x03 }
      (fun t => decide (t.a = 0x03 ∧ t.y = 0x01 ∧ t.pc = 0xE001)) = true := by decide

/-- Vector T43-20 (R309). -/
theorem test_sxy_t43_20 :
    check 8 0x02 { std with x := 0xAA, y := 0x55 }
      (fun t => decide (t.x = 0x55 ∧ t.y = 0xAA ∧ t.pc = 0xE001)) = true := by decide

/-- Vector T43-21 (R310). -/
theorem test_tax_t43_21 :
    check 8 0xAA { std with a := 0x00, x := 0x44 }
      (fun t => decide (t.x = 0x00 ∧ t.pc = 0xE001 ∧ t.p.z = true)) = true := by decide

/-- Vector T43-22 (R311). -/
theorem test_tay_t43_22 :
    check 8 0xA8 { std with a := 0x90 }
      (fun t => decide (t.y = 0x90 ∧ t.pc = 0xE001 ∧ t.p.n = true)) = true := by decide

/-- Vector T43-23 (R312). -/
theorem test_tsx_t43_23 :
    check 8 0xBA { std with sp := 0xFF }
      (fun t => decide (t.x = 0xFF ∧ t.pc = 0xE001 ∧ t.p.n = true)) = true := by decide

/-- Vector T43-24 (R313). -/
theorem test_txa_t43_24 :
    check 8 0x8A { std with x := 0x01, p := { std.p with n := true } }
      (fun t => decide (t.a = 0x01 ∧ t.pc = 0xE001 ∧ t.p.n = false)) = true := by decide

/-- Vector T43-25 (R314). -/
theorem test_txs_t43_25 :
    check 8 0x9A { std with x := 0x00, sp := 0xFF, p := { std.p with n := true } }
      (fun t => decide (t.sp = 0x00 ∧ t.pc = 0xE001)) = true := by decide

/-- Vector T43-26 (R315). -/
theorem test_tya_t43_26 :
    check 8 0x98 { std with y := 0x00, a := 0x77 }
      (fun t => decide (t.a = 0x00 ∧ t.pc = 0xE001 ∧ t.p.z = true)) = true := by decide

/-- Vector T43-27 (R316). -/
theorem test_st0_t43_27 :
    check 16 0x0503 { std with mpr := State.reset.mpr }
      (fun t => decide (t.io.deviceLog = [.write 0x1FE000 0x05] ∧
        t.pc = 0xE002)) = true := by decide

/-- Vector T43-28 (R317). -/
theorem test_st1_t43_28 :
    check 16 0x3413 std
      (fun t => decide (t.io.deviceLog = [.write 0x1FE002 0x34] ∧
        t.pc = 0xE002)) = true := by decide

/-- Vector T43-29 (R318). -/
theorem test_st2_t43_29 :
    check 16 0x1223 std
      (fun t => decide (t.io.deviceLog = [.write 0x1FE003 0x12] ∧
        t.pc = 0xE002)) = true := by decide

/-- Vector T43-30 (R319). -/
theorem test_tam_t43_30 :
    check 16 0x4153 { std with a := 0x77 }
      (fun t => decide (t.pc = 0xE002 ∧ t.mprLatch = 0x77 ∧ t.mpr.m0 = 0x77 ∧
        t.mpr.m6 = 0x77)) = true := by decide

/-- Vector T43-31 (R319). -/
theorem test_tam_t43_31 :
    check 16 0x0053 { std with a := 0x77, mprLatch := 0x12 }
      (fun t => decide (t.pc = 0xE002)) = true := by decide

/-- Vector T43-34 (R320). -/
theorem test_tma_t43_34 :
    check 16 0x0243 { std with a := 0x00 }
      (fun t => decide (t.a = 0xF8 ∧ t.pc = 0xE002)) = true := by decide

/-- Vector T43-35 (R320). -/
theorem test_tma_t43_35 :
    check 16 0x0043 { std with a := 0x00, mprLatch := 0x5A }
      (fun t => decide (t.a = 0x5A ∧ t.pc = 0xE002)) = true := by decide

/-- Vector T44-3 (R352). -/
theorem test_tdd_t44_3 :
    check 56 0x000330033002C3 (put 0x3000 [0x01, 0x02, 0x03, 0x09] std)
      (fun t => decide (t.pc = 0xE007 ∧ t.peek (t.translate 0x21FF) = 0x00 ∧
        t.peek (t.translate 0x21FE) = 0x00 ∧ t.peek (t.translate 0x21FD) = 0x00 ∧
        t.peek (t.translate 0x3003) = 0x03 ∧ t.peek (t.translate 0x3002) = 0x02 ∧
        t.peek (t.translate 0x3001) = 0x01)) = true := by decide +kernel

/-- Vector T44-4 (R353). -/
theorem test_tin_t44_4 :
    check 56 0x000210003000D3 (put 0x3000 [0x0F, 0xF0] std)
      (fun t => decide (t.pc = 0xE007 ∧ t.io.portO = 0xF0 ∧ t.peek (t.translate 0x21FF) = 0x00 ∧
        t.peek (t.translate 0x21FE) = 0x00 ∧
        t.peek (t.translate 0x21FD) = 0x00)) = true := by decide +kernel

/-- Vector T44-5 (R354). -/
theorem test_tia_t44_5 :
    check 56 0x000531003000E3 (put 0x3000 [0x01, 0x02, 0x03, 0x04, 0x05] std)
      (fun t => decide (t.pc = 0xE007 ∧ t.peek (t.translate 0x21FF) = 0x00 ∧
        t.peek (t.translate 0x21FE) = 0x00 ∧ t.peek (t.translate 0x21FD) = 0x00 ∧
        t.peek (t.translate 0x3100) = 0x05 ∧
        t.peek (t.translate 0x3101) = 0x04)) = true := by decide +kernel

/-- Vector T44-6 (R355). -/
theorem test_tai_t44_6 :
    check 56 0x000431003000F3 (put 0x3000 [0xAA, 0xBB] std)
      (fun t => decide (t.pc = 0xE007 ∧ t.peek (t.translate 0x21FF) = 0x00 ∧
        t.peek (t.translate 0x21FE) = 0x00 ∧ t.peek (t.translate 0x21FD) = 0x00 ∧
        t.peek (t.translate 0x3100) = 0xAA ∧ t.peek (t.translate 0x3101) = 0xBB ∧
        t.peek (t.translate 0x3102) = 0xAA ∧
        t.peek (t.translate 0x3103) = 0xBB)) = true := by decide +kernel

/-- Vector T44-8 (R351, R350). -/
theorem test_tii_t44_8 :
    check 56 0x000321FD300073
      (put 0x3000 [0xC1, 0xC2, 0xC3] { std with a := 0x11, x := 0x22, y := 0x33 })
      (fun t => decide (t.a = 0xC2 ∧ t.x = 0xC1 ∧ t.y = 0xC3 ∧ t.pc = 0xE007 ∧
        t.peek (t.translate 0x21FF) = 0xC3 ∧ t.peek (t.translate 0x21FE) = 0xC2 ∧
        t.peek (t.translate 0x21FD) = 0xC1)) = true := by decide +kernel

/-- Vector T45-3 (R371). -/
theorem test_bbr7_t45_3 :
    check 24 0xFD107F (put 0x2010 [0x7F] std)
      (fun t => decide (t.pc = 0xE000)) = true := by decide

/-- Vector T45-6 (R372). -/
theorem test_bbs3_t45_6 :
    check 24 0x8010BF (put 0x2010 [0x08] std)
      (fun t => decide (t.pc = 0xDF83)) = true := by decide

/-- Vector T45-8 (R373). -/
theorem test_bcc_t45_8 :
    check 16 0x1090 { std with p := { std.p with c := true } }
      (fun t => decide (t.pc = 0xE002)) = true := by decide

/-- Vector T45-10 (R374). -/
theorem test_bcs_t45_10 :
    check 16 0xFEB0 { std with p := { std.p with c := true } }
      (fun t => decide (t.pc = 0xE000)) = true := by decide

/-- Vector T45-12 (R375). -/
theorem test_beq_t45_12 :
    check 16 0x10F0 { std with p := { std.p with z := true } }
      (fun t => decide (t.pc = 0xE012)) = true := by decide

/-- Vector T45-13 (R376). -/
theorem test_bmi_t45_13 :
    check 16 0x8030 { std with pc := 0xE010, p := { std.p with n := true } }
      (fun t => decide (t.pc = 0xDF92)) = true := by decide

/-- Vector T45-14 (R377). -/
theorem test_bne_t45_14 :
    check 16 0xFBD0 { std with pc := 0xE005, p := { std.p with z := false } }
      (fun t => decide (t.pc = 0xE002)) = true := by decide

/-- Vector T45-16 (R378). -/
theorem test_bpl_t45_16 :
    check 16 0x7F10 { std with p := { std.p with n := true } }
      (fun t => decide (t.pc = 0xE002)) = true := by decide

/-- Vector T45-17 (R379). -/
theorem test_bra_t45_17 :
    check 16 0x0280 { std with pc := 0xFFFE }
      (fun t => decide (t.pc = 0x0002)) = true := by decide

/-- Vector T45-20 (R380). -/
theorem test_bvc_t45_20 :
    check 16 0x1050 { std with p := { std.p with v := false } }
      (fun t => decide (t.pc = 0xE012)) = true := by decide

/-- Vector T45-21 (R381). -/
theorem test_bvs_t45_21 :
    check 16 0x1070 { std with p := { std.p with v := true } }
      (fun t => decide (t.pc = 0xE012)) = true := by decide

/-- Vector T45-22 (R382). -/
theorem test_jmp_t45_22 :
    check 24 0x12344C std
      (fun t => decide (t.pc = 0x1234)) = true := by decide

/-- Vector T45-23 (R382, R167). -/
theorem test_jmp_t45_23 :
    check 24 0x30FF6C (put 0x30FF [0x78] (put 0x3100 [0x56] std))
      (fun t => decide (t.pc = 0x5678)) = true := by decide

/-- Vector T45-25 (R382, R168). -/
theorem test_jmp_t45_25 :
    check 24 0xFFFF7C (put 0xFFFF [0xCD] (put 0x0000 [0xAB] { stdLow with x := 0x00 }))
      (fun t => decide (t.pc = 0xABCD)) = true := by decide

/-- Vector T46-2 (R400). -/
theorem test_bsr_t46_2 :
    check 16 0xFE44 { std with sp := 0x00 }
      (fun t => decide (t.sp = 0xFE ∧ t.peek (t.translate 0x2100) = 0xE0 ∧
        t.peek (t.translate 0x21FF) = 0x01)) = true := by decide

/-- Vector T46-3 (R401). -/
theorem test_jsr_t46_3 :
    check 24 0xC00020 { std with pc := 0xE100, sp := 0xFD }
      (fun t => decide (t.sp = 0xFB ∧ t.pc = 0xC000 ∧ t.peek (t.translate 0x21FD) = 0xE1 ∧
        t.peek (t.translate 0x21FC) = 0x02)) = true := by decide

/-- Vector T46-5 (R402). -/
theorem test_pha_t46_5 :
    check 8 0x48 { std with a := 0x12 }
      (fun t => decide (t.sp = 0xFE ∧ t.pc = 0xE001 ∧
        t.peek (t.translate 0x21FF) = 0x12)) = true := by decide

/-- Vector T46-6 (R403). -/
theorem test_php_t46_6 :
    check 8 0x08 { std with p := { std.p with n := true, c := true } }
      (fun t => decide (t.sp = 0xFE ∧ t.pc = 0xE001 ∧
        t.peek (t.translate 0x21FF) = 0x95)) = true := by decide

/-- Vector T46-8 (R404). -/
theorem test_phx_t46_8 :
    check 8 0xDA { std with x := 0x34, sp := 0xFE }
      (fun t => decide (t.sp = 0xFD ∧ t.pc = 0xE001 ∧
        t.peek (t.translate 0x21FE) = 0x34)) = true := by decide

/-- Vector T46-9 (R405). -/
theorem test_phy_t46_9 :
    check 8 0x5A { std with y := 0x56, sp := 0x00 }
      (fun t => decide (t.sp = 0xFF ∧ t.pc = 0xE001 ∧
        t.peek (t.translate 0x2100) = 0x56)) = true := by decide

/-- Vector T46-10 (R406). -/
theorem test_pla_t46_10 :
    check 8 0x68 (put 0x21FF [0x00] { std with sp := 0xFE, a := 0x11 })
      (fun t => decide (t.a = 0x00 ∧ t.sp = 0xFF ∧ t.pc = 0xE001 ∧
        t.p.z = true)) = true := by decide

/-- Vector T46-11 (R407). -/
theorem test_plp_t46_11 :
    check 8 0x28 (put 0x21FF [0xFF] { std with sp := 0xFE })
      (fun t => decide (t.sp = 0xFF ∧ t.pc = 0xE001 ∧ t.p.n = true ∧ t.p.v = true ∧ t.p.t = true ∧
        t.p.d = true ∧ t.p.z = true ∧ t.p.c = true)) = true := by decide

/-- Vector T46-14 (R408). -/
theorem test_plx_t46_14 :
    check 8 0xFA (put 0x21FE [0x80] { std with sp := 0xFD })
      (fun t => decide (t.x = 0x80 ∧ t.sp = 0xFE ∧ t.pc = 0xE001 ∧
        t.p.n = true)) = true := by decide

/-- Vector T46-15 (R409). -/
theorem test_ply_t46_15 :
    check 8 0x7A (put 0x2100 [0x01] { std with sp := 0xFF })
      (fun t => decide (t.y = 0x01 ∧ t.sp = 0x00 ∧ t.pc = 0xE001)) = true := by decide

/-- Vector T46-17 (R410). -/
theorem test_rti_t46_17 :
    check 8 0x40
      (put 0x21FF [0x00] (put 0x2100 [0x00] (put 0x2101 [0xC0] { std with sp := 0xFE })))
      (fun t => decide (t.sp = 0x01 ∧ t.pc = 0xC000 ∧ t.p.i = false)) = true := by decide

/-- Vector T46-19 (R411). -/
theorem test_rts_t46_19 :
    check 8 0x60 (put 0x21FE [0xFF, 0xFF] { std with sp := 0xFD })
      (fun t => decide (t.sp = 0xFF ∧ t.pc = 0x0000)) = true := by decide

/-- Vector T47-1 (R430). -/
theorem test_bit_t47_1 :
    check 16 0x1024 (put 0x2010 [0xC1] { std with a := 0x01 })
      (fun t => decide (t.pc = 0xE002 ∧ t.p.n = true ∧ t.p.v = true)) = true := by decide

/-- Vector T47-4 (R430). -/
theorem test_bit_t47_4 :
    check 16 0x0189
      { std with a := 0x01, p := { std.p with n := true, v := true, z := true } }
      (fun t => decide (t.pc = 0xE002 ∧ t.p.n = false ∧ t.p.v = false ∧
        t.p.z = false)) = true := by decide

/-- Vector T47-7 (R431). -/
theorem test_trb_t47_7 :
    check 16 0x2014 (put 0x2020 [0xF0] { std with a := 0x0F })
      (fun t => decide (t.pc = 0xE002 ∧ t.p.n = true ∧ t.p.v = true ∧
        t.peek (t.translate 0x2020) = 0xF0)) = true := by decide

/-- Vector T47-11 (R432). -/
theorem test_tsb_t47_11 :
    check 16 0x2004 (put 0x2020 [0x80] { std with a := 0x01 })
      (fun t => decide (t.pc = 0xE002 ∧ t.p.n = true ∧
        t.peek (t.translate 0x2020) = 0x81)) = true := by decide

/-- Vector T47-13 (R433). -/
theorem test_tst_t47_13 :
    check 24 0x1001A3 (put 0x2012 [0x81] { std with x := 0x02 })
      (fun t => decide (t.pc = 0xE003 ∧ t.p.n = true)) = true := by decide

/-- Vector T47-16 (R433). -/
theorem test_tst_t47_16 :
    check 32 0x30FFFFB3
      (put 0x3100 [0x00] { std with x := 0x01, p := { std.p with n := true, v := true } })
      (fun t => decide (t.pc = 0xE004 ∧ t.p.n = false ∧ t.p.v = false ∧
        t.p.z = true)) = true := by decide

/-- Vector T48-1 (R450). -/
theorem test_brk_t48_1 :
    check 8 0x00
      (put 0xFFF6 [0x00, 0xF0]
        { std with pc := 0xE010, p := { std.p with d := true, i := false, z := true, c := true } })
      (fun t => decide (t.sp = 0xFC ∧ t.pc = 0xF000 ∧ t.p.d = false ∧ t.p.i = true ∧
        t.peek (t.translate 0x21FF) = 0xE0 ∧ t.peek (t.translate 0x21FE) = 0x12 ∧
        t.peek (t.translate 0x21FD) = 0x1B)) = true := by decide

/-- Vector T48-5 (R451). -/
theorem test_nop_t48_5 :
    check 8 0xEA { std with pc := 0x4000 }
      (fun t => decide (t.pc = 0x4001)) = true := by decide

/-- Vector T48-6 (R452). -/
theorem test_rmb3_t48_6 :
    check 16 0x4037 (put 0x2040 [0xFF] std)
      (fun t => decide (t.pc = 0xE002 ∧ t.peek (t.translate 0x2040) = 0xF7)) = true := by decide

/-- Vector T48-10 (R453). -/
theorem test_smb0_t48_10 :
    check 16 0x4087 (put 0x2040 [0x10] std)
      (fun t => decide (t.pc = 0xE002 ∧ t.peek (t.translate 0x2040) = 0x11)) = true := by decide

/-- Vector T48-11 (R454). -/
theorem test_csh_t48_11 :
    check 8 0xD4 std
      (fun t => decide (t.pc = 0xE001 ∧ t.speed = .high)) = true := by decide

/-- Vector T48-12 (R455). -/
theorem test_csl_t48_12 :
    check 8 0x54 { std with speed := .high }
      (fun t => decide (t.pc = 0xE001 ∧ t.speed = .low)) = true := by decide

/-! Witnesses: states and operands that meet the hypotheses of the obligations, clause by clause. -/

/-- `std` with one byte range of ROM and one of a platform device. -/
def stdMapped : State :=
  { std with platform := [⟨0x1F1000, 0x1000, .rom⟩, ⟨0x1F2000, 0x1000, .device⟩] }

/-- The word of `NOP` in memory at the program counter. -/
def atNop : State := std.withFetchWord 8 0xEA

/-- `std` with I reset and IRQ1 asserted. -/
def irqState : State :=
  { std with
    p := { std.p with i := false }
    io := { std.io with pins := { std.io.pins with irq1 := .low } } }

/-- `CLI; NOP` at the program counter with IRQ1 asserted and I set. -/
def cliState : State :=
  { put 0xE000 [0x58, 0xEA] std with
    io := { std.io with pins := { std.io.pins with irq1 := .low } } }

theorem witness_encodeOfDecode : decode [0xA9, 0x34, 0x00] = .ok (.ldaImm 0x34, [0x00]) := rfl

theorem witness_undefinedOpcodes :
    decode [0x0B, 0x00] = .error (.illegalOpcode 0x0B) ∧
    decode [0xFC] = .error (.illegalOpcode 0xFC) := ⟨rfl, rfl⟩

theorem witness_bitOpcodePatterns :
    (Instr.bbr0 0x10 0x05).mnemonic = .bbr 0 ∧ (Instr.bbs7 0x10 0x05).mnemonic = .bbs 7 ∧
    (Instr.rmb0 0x10).mnemonic = .rmb 0 ∧ (Instr.smb7 0x10).mnemonic = .smb 7 ∧
    decode [0x0F, 0x10, 0x05] = .ok (.bbr0 0x10 0x05, []) ∧
    decode [0xFF, 0x10, 0x05] = .ok (.bbs7 0x10 0x05, []) ∧
    decode [0x07, 0x10] = .ok (.rmb0 0x10, []) ∧ decode [0xF7, 0x10] = .ok (.smb7 0x10, []) :=
  ⟨rfl, rfl, rfl, rfl, rfl, rfl, rfl, rfl⟩

theorem witness_stepRunsDecodedInstruction :
    atNop.elapse.io.resetPending = false ∧ atNop.intSel = .none ∧
    atNop.elapse.fetch = (encode .nop, atNop.elapse.fetch.2) := by decide

theorem witness_stepRunsInstructionInMemory :
    atNop.atRest = true ∧ atNop.intSel = .none ∧ atNop.holds atNop.pc (encode .nop) = true := by
  decide

/-- The three bytes of a JMP from `$FFFF` across the wrap to `$0000`. -/
theorem witness_stepRunsInstructionInMemory_wraps :
    let s := put 0xFFFF [0x4C, 0x34, 0x12] { stdLow with pc := 0xFFFF }
    s.atRest = true ∧ s.intSel = .none ∧ s.holds s.pc (encode (.jmpAbs 0x1234)) = true := by decide

theorem witness_stepRefusesUndefinedOpcode :
    let s := put 0xE000 [0xE2] std
    s.atRest = true ∧ s.intSel = .none ∧ s.holds s.pc [0xE2] = true ∧
    step s = .refused (.illegalOpcode 0xE2) := ⟨by decide, by decide, by decide, rfl⟩

theorem witness_everyInstructionAnswers :
    (Instr.tma 0x80).wf = true ∧ (Instr.tma 0x03).wf = false := by decide

theorem witness_resetTaken :
    let s := { std with io := { std.io with resetPending := true } }
    s.elapse.io.resetPending = true ∧ s.elapse.io.schedule = [] ∧
    s.isMemory 0x001FFE#21 = true ∧ s.isMemory 0x001FFF#21 = true := by decide

theorem witness_stepKeepsInvariant : State.Inv atNop ∧ ∃ t, step atNop = .next t :=
  ⟨⟨by decide, by decide, by decide⟩, _, rfl⟩

theorem witness_canonicalMemoryDetermined :
    Memory.wf [⟨5, 1⟩] = true ∧ ∀ k : Nat, Memory.read [⟨5, 1⟩] k = Memory.read [⟨5, 1⟩] k :=
  ⟨by decide, fun _ => rfl⟩

theorem witness_stepWritesRamOnly :
    stdMapped.isRam 0x1F1000#21 = false ∧ stdMapped.isRam 0x1FE000#21 = false ∧
    ∃ t, step (stdMapped.withFetchWord 24 0x30008D) = .next t := ⟨by decide, by decide, _, rfl⟩

theorem witness_specialRegisterWriters :
    (∃ t, exec .nop std = .next t) ∧ Instr.nop.mnemonic ≠ .tam ∧
    Instr.nop.mnemonic ∉ [Mnemonic.csh, .csl] ∧
    Instr.nop.mnemonic ∉ [Mnemonic.tii, .tdd, .tin, .tia, .tai] ∧
    Instr.nop.mnemonic ∉ [Mnemonic.txs, .pha, .php, .phx, .phy, .pla, .plp, .plx, .ply, .bsr, .jsr,
      .rts, .rti, .brk] ∧ Instr.nop.mnemonic ≠ .brk :=
  ⟨⟨_, rfl⟩, by decide, by decide, by decide, by decide, by decide⟩

theorem witness_flagWriters :
    (∃ t, exec .nop std = .next t) ∧ Instr.nop.mnemonic = .nop ∧
    (∃ t, exec (.adcImm 1) { std with p := { std.p with d := true } } = .next t) ∧
    (Instr.adcImm 1).mnemonic = .adc ∧ (∃ t, exec .setT std = .next t) ∧
    Instr.setT.mnemonic = .setT := ⟨⟨_, rfl⟩, rfl, ⟨_, rfl⟩, rfl, ⟨_, rfl⟩, rfl⟩

/-- Interrupt circuits for the six clauses: NMI, masked, TIMER, IRQ1, IRQ2, nothing. -/
theorem witness_interruptSample :
    let io := std.io
    let low := { io with pins := { io.pins with irq1 := .low, irq2 := .low } }
    ({ io with nmiPending := true }.select true = .nmi) ∧ low.select true = .none ∧
    ({ low with tiq := true }.select false = .timer) ∧ low.select false = .irq1 ∧
    ({ low with idr := { low.idr with irq1d := true } }.select false = .irq2) ∧
    ({ low with idr := { low.idr with irq1d := true, irq2d := true } }.select false = .none) ∧
    Instr.cli.mnemonic ∈ [Mnemonic.cli, .sei] ∧ Instr.nop.mnemonic ∉ [Mnemonic.cli, .sei] := by
  decide

theorem witness_interruptEntered :
    let s := { std with intSel := .irq2 }
    let n := { std with intSel := .nmi }
    IntSel.irq2 ≠ .none ∧ s.intSel = .irq2 ∧ s.elapse.io.resetPending = false ∧
    IntSel.nmi ≠ .none ∧ n.intSel = .nmi ∧ n.elapse.io.resetPending = false := by decide

theorem witness_entryThenReturn :
    let e := irqState.entered 0xFFF8#16 false 0x1234
    irqState.mem.wf = true ∧
    (∀ k : Nat, k < 3 → irqState.isRam (irqState.stackSlot (BitVec.ofNat 8 k)) = true) ∧
    e.sp = e.sp ∧ e.mpr = irqState.mpr ∧ e.platform = irqState.platform ∧
    (∀ k : Nat, k < 3 → e.peek (irqState.stackSlot (BitVec.ofNat 8 k)) =
      e.peek (irqState.stackSlot (BitVec.ofNat 8 k))) := by decide

theorem witness_cliDelaysInterrupt :
    cliState.atRest = true ∧ cliState.intSel = .none ∧ cliState.p.i = true ∧
    cliState.io.nmiPending = false ∧ cliState.io.tiq = false ∧ cliState.io.pins.irq1 = .low ∧
    cliState.io.idr.irq1d = false ∧
    cliState.holds cliState.pc (encode .cli ++ encode .nop) = true := by decide

theorem witness_nmiEdgeLatch :
    std.io.pins.nmi = .high ∧ (std.io.apply (.nmiPin .low)).pins.nmi = .low ∧
    (∀ l, EnvEvent.irq1Pin .low ≠ .nmiPin l) ∧ std.io.schedule = [] := by
  refine ⟨by decide, by decide, ?_, by decide⟩
  intro l
  cases l <;> decide

theorem witness_timerCountsDown :
    let t := { std.io with timer := ⟨2, 2, true, 0⟩ }
    2 ≤ t.timer.counter.toNat ∧ std.io.timer.start = false ∧ t.timer.start = true ∧
    t.timer.prescaler.toNat + 1023 < 1024 ∧ t.timer.counter = t.timer.reload := by decide

theorem witness_timerRegisters :
    let lo : PhysAddr := 0x1FEC00
    let hi : PhysAddr := 0x1FEFFF
    0x1FEC00 ≤ lo.toNat ∧ lo.toNat < 0x1FF000 ∧ lo.toNat % 2 = 0 ∧ std.io.elapse.glitch = false ∧
    0x1FEC00 ≤ hi.toNat ∧ hi.toNat < 0x1FF000 ∧ hi.toNat % 2 = 1 ∧
    (0x00#8).getLsbD 0 = false ∧ (0x01#8).getLsbD 0 = true ∧
    std.io.elapse.timer.start = false ∧
    ({ std.io with timer := ⟨0, 0, true, 0⟩, schedule := [[]] } : Io).elapse.timer.start = true := by
  decide

theorem witness_interruptRegistersAndPort :
    (∀ pa ∈ [0x1FF403#21, 0x1FF7FF#21], 0x1FF400 ≤ pa.toNat ∧ pa.toNat < 0x1FF800 ∧
      pa.toNat % 4 = 3) ∧
    (∀ pa ∈ [0x1FF402#21, 0x1FF7FE#21], 0x1FF400 ≤ pa.toNat ∧ pa.toNat < 0x1FF800 ∧
      pa.toNat % 4 = 2) ∧
    ∀ pa ∈ [0x1FF000#21, 0x1FF3FF#21], 0x1FF000 ≤ pa.toNat ∧ pa.toNat < 0x1FF400 := by simp

theorem witness_timerKeepsTicking : ({ std.io with timer := ⟨2, 2, true, 0⟩ } : Io).timer.start = true := by
  decide

theorem witness_blockFFSideEffects :
    (∀ pa ∈ [0x1FEC00#21, 0x1FEFFE#21, 0x1FF000#21, 0x1FF3FF#21, 0x1FF402#21, 0x1FF7FF#21],
      0x1FE000 ≤ pa.toNat ∧ 0x1FEC00 ≤ pa.toNat ∧ pa.toNat < 0x1FF800 ∧
      (pa.toNat < 0x1FF000 → pa.toNat % 2 = 0) ∧ (0x1FF400 ≤ pa.toNat → 2 ≤ pa.toNat % 4)) ∧
    (∀ pa ∈ [0x1FEC01#21, 0x1FEFFF#21],
      0x1FE000 ≤ pa.toNat ∧ pa.toNat < 0x1FF000 ∧ pa.toNat % 2 = 1) ∧
    ∀ pa ∈ [0x1FE000#21, 0x1FEBFF#21, 0x1FF400#21, 0x1FF7FD#21, 0x1FF800#21, 0x1FFFFF#21],
      0x1FE000 ≤ pa.toNat ∧ (pa.toNat < 0x1FEC00 ∨ 0x1FF800 ≤ pa.toNat ∨
        (0x1FF400 ≤ pa.toNat ∧ pa.toNat % 4 < 2)) := by simp

/-- The first and the last logical address of every 8K-byte block. -/
theorem witness_translation :
    ∀ k ∈ [0, 1, 2, 3, 4, 5, 6, 7],
      (BitVec.ofNat 16 (k * 0x2000)).toNat / 0x2000 = k ∧
      (BitVec.ofNat 16 (k * 0x2000 + 0x1FFF)).toNat / 0x2000 = k := by decide

theorem witness_effectiveAddresses :
    ∀ p ∈ [0x00#8, 0xFF#8], std.isMemory (std.translate (zpAddr p)) = true ∧
      std.isMemory (std.translate (zpAddr (p + 1))) = true := by decide

/-- RAM through two logical aliases, another address, and ROM. -/
theorem witness_readAfterWrite :
    let s := { stdMapped with mpr := { std.mpr with m0 := 0xF8, m2 := 0xF8 } }
    s.mem.wf = true ∧ s.isRam (s.translate 0x2000) = true ∧
    s.translate 0x4000 = s.translate 0x2000 ∧ s.translate 0x0001 ≠ s.translate 0x2000 ∧
    s.isMemory (s.translate 0x0001) = true ∧ s.isMemory (s.translate 0x3FFF) = true ∧
    s.isRam (s.translate 0x3FFF) = false := by decide

theorem witness_decimalArithmetic :
    ∀ b ∈ [0x00#8, 0x99#8], b.toNat / 16 ≤ 9 ∧ b.toNat % 16 ≤ 9 := by decide

theorem witness_loadResult :
    (Instr.ldaIndY 0x20).form = (Source.mem (.indY 0x20)).form ∧
    (Instr.ldaIndY 0x20).mnemonic = .lda ∧
    (Instr.ldxImm 0x20).form = (Source.imm 0x20).form ∧ (Instr.ldxImm 0x20).mnemonic = .ldx ∧
    (Instr.ldyAbsX 0x3000).form = (Source.mem (.absX 0x3000)).form ∧
    (Instr.ldyAbsX 0x3000).mnemonic = .ldy := by decide

theorem witness_storeResult :
    (Instr.staInd 0x20).form = .mem (.ind 0x20) ∧ (Instr.staInd 0x20).mnemonic = .sta ∧
    (Instr.stxZpY 0x20).form = .mem (.zpY 0x20) ∧ (Instr.stxZpY 0x20).mnemonic = .stx ∧
    (Instr.styAbs 0x3000).form = .mem (.abs 0x3000) ∧ (Instr.styAbs 0x3000).mnemonic = .sty ∧
    (Instr.stzZp 0x20).form = .mem (.zp 0x20) ∧ (Instr.stzZp 0x20).mnemonic = .stz := by decide

theorem witness_aluOnAccumulator :
    std.p.t = false ∧ (Instr.adcImm 1).form = (Source.imm 1).form ∧
    (Instr.adcImm 1).mnemonic = .adc ∧ (Instr.andZp 1).form = (Source.mem (.zp 1)).form ∧
    (Instr.andZp 1).mnemonic = .and ∧ (Instr.eorImm 1).form = (Source.imm 1).form ∧
    (Instr.eorImm 1).mnemonic = .eor ∧ (Instr.oraImm 1).form = (Source.imm 1).form ∧
    (Instr.oraImm 1).mnemonic = .ora ∧ (Instr.sbcImm 1).form = (Source.imm 1).form ∧
    (Instr.sbcImm 1).mnemonic = .sbc := by decide

theorem witness_aluOnZeroPage :
    ({ std with p := { std.p with t := true } } : State).p.t = true ∧
    (Instr.adcIndX 1).form = (Source.mem (.indX 1)).form ∧ (Instr.adcIndX 1).mnemonic = .adc ∧
    (Instr.andImm 1).form = (Source.imm 1).form ∧ (Instr.andImm 1).mnemonic = .and ∧
    (Instr.eorImm 1).form = (Source.imm 1).form ∧ (Instr.eorImm 1).mnemonic = .eor ∧
    (Instr.oraImm 1).form = (Source.imm 1).form ∧ (Instr.oraImm 1).mnemonic = .ora := by decide

theorem witness_compareResult :
    (Instr.cmpAbsY 1).form = (Source.mem (.absY 1)).form ∧ (Instr.cmpAbsY 1).mnemonic = .cmp ∧
    (Instr.cpxImm 1).form = (Source.imm 1).form ∧ (Instr.cpxImm 1).mnemonic = .cpx ∧
    (Instr.cpyZp 1).form = (Source.mem (.zp 1)).form ∧ (Instr.cpyZp 1).mnemonic = .cpy := by decide

theorem witness_readModifyWriteResult :
    Instr.aslAcc.mnemonic = .asl ∧ Instr.aslAcc.form = .acc ∧
    (Instr.lsrZp 1).mnemonic = .lsr ∧ (Instr.lsrZp 1).form = .mem (.zp 1) ∧
    (Instr.rolZpX 1).mnemonic = .rol ∧ (Instr.rolZpX 1).form = .mem (.zpX 1) ∧
    (Instr.rorAbs 1).mnemonic = .ror ∧ (Instr.rorAbs 1).form = .mem (.abs 1) ∧
    (Instr.incAbsX 1).mnemonic = .inc ∧ (Instr.incAbsX 1).form = .mem (.absX 1) ∧
    Instr.decAcc.mnemonic = .dec ∧ Instr.decAcc.form = .acc := by decide

theorem witness_bitModifyResult :
    (Instr.trbZp 1).mnemonic = .trb ∧ (Instr.trbZp 1).form = .mem (.zp 1) ∧
    (Instr.tsbAbs 1).mnemonic = .tsb ∧ (Instr.tsbAbs 1).form = .mem (.abs 1) ∧
    (Instr.rmb7 1).mnemonic = .rmb 7 ∧ (Instr.rmb7 1).form = .mem (.zp 1) ∧
    (Instr.smb0 1).mnemonic = .smb 0 ∧ (Instr.smb0 1).form = .mem (.zp 1) := by decide

theorem witness_testResult :
    (Instr.bitImm 1).mnemonic = .bit ∧ (Instr.bitImm 1).form = (Source.imm 1).form ∧
    (Instr.tstImmAbsX 1 2).mnemonic = .tst ∧
    (Instr.tstImmAbsX 1 2).form = .immMem 1 (.absX 2) := by decide

/-- Every condition of the relative branches, with the offset at both ends of its range. -/
theorem witness_branchResult :
    (∀ rr ∈ [0x7F#8, 0x80#8], ∀ i ∈ [Instr.bcc rr, .bcs rr, .bne rr, .beq rr, .bpl rr, .bmi rr, .bvc rr,
      .bvs rr, .bra rr], i.form = .rel rr) ∧
    (Instr.bcc 0).mnemonic = .bcc ∧ (Instr.bcs 0).mnemonic = .bcs ∧ (Instr.bne 0).mnemonic = .bne ∧
    (Instr.beq 0).mnemonic = .beq ∧ (Instr.bpl 0).mnemonic = .bpl ∧ (Instr.bmi 0).mnemonic = .bmi ∧
    (Instr.bvc 0).mnemonic = .bvc ∧ (Instr.bvs 0).mnemonic = .bvs ∧
    (Instr.bra 0).mnemonic = .bra := by decide

theorem witness_bitBranchResult :
    (Instr.bbr0 1 0x80).form = .zpRel 1 0x80 ∧ (Instr.bbr0 1 0x80).mnemonic = .bbr 0 ∧
    (Instr.bbs7 1 0x7F).form = .zpRel 1 0x7F ∧ (Instr.bbs7 1 0x7F).mnemonic = .bbs 7 := by decide

theorem witness_pushResult :
    let v := ({ std.p with t := false } : Flags).toByte true
    v.getLsbD 7 = std.p.n ∧ v.getLsbD 6 = std.p.v ∧ v.getLsbD 5 = false ∧ v.getLsbD 4 = true ∧
    v.getLsbD 3 = std.p.d ∧ v.getLsbD 2 = std.p.i ∧ v.getLsbD 1 = std.p.z ∧
    v.getLsbD 0 = std.p.c := by decide

theorem witness_blockTransferResult :
    (Instr.tii 0x3000 0x3100 2).form = .blk 0x3000 0x3100 2 ∧
    (Instr.tii 0x3000 0x3100 2).mnemonic = .tii ∧ (Instr.tdd 0x3000 0x3100 2).mnemonic = .tdd ∧
    (Instr.tin 0x3000 0x3100 2).mnemonic = .tin ∧ (Instr.tia 0x3000 0x3100 3).mnemonic = .tia ∧
    (Instr.tai 0x3000 0x3100 2).mnemonic = .tai ∧ std.mem.wf = true ∧
    (∀ j : Nat, j < 3 → std.isRam (std.stackSlot (BitVec.ofNat 8 j)) = true) ∧
    (∀ dst ∈ [Motion.increment, .decrement, .fixed, .alternate], ∀ j : Nat, j < 3 → ∀ k : Nat, k < 3 →
      std.translate (motionAt dst 0x3100 k) ≠ std.stackSlot (BitVec.ofNat 8 j)) := by decide

/-- The first clause: byte 0 of an increasing destination, the last byte of a fixed one, the last two of
an alternating one, three bytes each. -/
theorem witness_blockTransferCopies :
    ∀ c ∈ [(Motion.increment, 0), (.decrement, 0), (.fixed, 2), (.alternate, 1), (.alternate, 2)],
    ∀ src ∈ [Motion.increment, .decrement, .alternate],
      std.mem.wf = true ∧ c.2 < 3 ∧
      std.isMemory (std.translate (motionAt src 0x3000 c.2)) = true ∧
      std.isRam (std.translate (motionAt c.1 0x3100 c.2)) = true ∧
      (∀ j : Nat, j < c.2 →
        std.translate (motionAt c.1 0x3100 j) ≠ std.translate (motionAt src 0x3000 c.2)) ∧
      (∀ j : Nat, j < 3 →
        std.translate (motionAt src 0x3000 c.2) ≠ std.stackSlot (BitVec.ofNat 8 j)) ∧
      (∀ j : Nat, j < 3 → c.2 < j →
        std.translate (motionAt c.1 0x3100 j) ≠ std.translate (motionAt c.1 0x3100 c.2)) := by
  decide

/-- The second clause: TII from `$3000` to `$3001` and TDD from `$3000` to `$2FFF`, three bytes each. -/
theorem witness_blockTransferCopies_fill :
    ∀ c ∈ [(Motion.increment, 0x3001#16), (.decrement, 0x2FFF#16)],
      std.isMemory (std.translate (motionAt c.1 0x3000 0)) = true ∧
      (∀ j : Nat, j < 3 →
        std.translate (motionAt c.1 0x3000 0) ≠ std.stackSlot (BitVec.ofNat 8 j)) ∧
      (∀ k : Nat, k < 3 → std.isRam (std.translate (motionAt c.1 c.2 k)) = true) ∧
      (∀ k : Nat, k < 2 →
        std.translate (motionAt c.1 0x3000 (k + 1)) = std.translate (motionAt c.1 c.2 k)) ∧
      (∀ k : Nat, k < 3 → ∀ j : Nat, j < k →
        std.translate (motionAt c.1 c.2 j) ≠ std.translate (motionAt c.1 c.2 k)) := by decide

theorem witness_cycleCounts :
    (Instr.adcImm 0).form = .imm 0 ∧ (Instr.adcImm 0).mnemonic = .adc ∧
    (Instr.ldaIndY 0).form = .mem (.indY 0) ∧ (Instr.ldaIndY 0).mnemonic = .lda ∧
    Instr.aslAcc.form = .acc ∧ Instr.aslAcc.mnemonic = .asl ∧
    (Instr.trbAbs 0).form = .mem (.abs 0) ∧ (Instr.trbAbs 0).mnemonic = .trb ∧
    (Instr.rmb0 0).mnemonic = .rmb 0 ∧ (Instr.tstImmAbsX 0 0).form = .immMem 0 (.absX 0) ∧
    (Instr.tii 0 0 0).form = .blk 0 0 0 ∧ (Instr.tin 0 0 0xFFFF).form = .blk 0 0 0xFFFF ∧
    Instr.nop.mnemonic = .nop ∧ Instr.pha.mnemonic = .pha ∧ Instr.pla.mnemonic = .pla ∧
    (Instr.tam 0).mnemonic = .tam ∧ Instr.rts.mnemonic = .rts ∧ Instr.brk.mnemonic = .brk ∧
    (Instr.beq 0).mnemonic = .beq ∧ (Instr.bne 0).mnemonic = .bne ∧ (Instr.bcs 0).mnemonic = .bcs ∧
    (Instr.bcc 0).mnemonic = .bcc ∧ (Instr.bmi 0).mnemonic = .bmi ∧ (Instr.bpl 0).mnemonic = .bpl ∧
    (Instr.bvs 0).mnemonic = .bvs ∧ (Instr.bvc 0).mnemonic = .bvc ∧
    (Instr.bbr7 0 0).form = .zpRel 0 0 ∧ (Instr.bbr7 0 0).mnemonic = .bbr 7 ∧
    (Instr.bbs0 0 0).form = .zpRel 0 0 ∧ (Instr.bbs0 0 0).mnemonic = .bbs 0 := by decide

/-- The bytes of a block transfer: with MPR[0] = `$FF` the HuC6270 lies at logical `$0000` to `$03FF`, so
TIA to `$0002` sends every byte there and TII to `$0400` none. -/
theorem witness_cycleCounts_block :
    let vdc : Word → Bool := fun la =>
      decide (0x1FE000 ≤ (std.translate la).toNat ∧ (std.translate la).toNat < 0x1FE400)
    vdc 0x0000 = true ∧ vdc 0x03FF = true ∧
    (∀ k : Nat, k < 4 → vdc (motionAt .alternate 0x0002 k) = true) ∧
    (Instr.tia 0x3000 0x0002 4).form = .blk 0x3000 0x0002 4 ∧
    (Instr.tia 0x3000 0x0002 4).mnemonic = .tia ∧
    (∀ k : Nat, k < 4 → (vdc (motionAt .increment 0x3000 k) ||
      vdc (motionAt .increment 0x0400 k)) = false) ∧
    (Instr.tii 0x3000 0x0400 4).form = .blk 0x3000 0x0400 4 ∧
    (Instr.tii 0x3000 0x0400 4).mnemonic = .tii := by decide

/-- The second of these counted, and one byte to the HuC6270 (70_reset_and_hazards.md R622 (e)). -/
theorem test_cycles_block :
    cycleCount (.tii 0x3000 0x0400 4) std = 41 ∧
    cycleCount (.tin 0x3000 0x0002 1) std = 24 + Config.vdcByteCycles [] 0 := by
  refine ⟨by decide, ?_⟩
  have hvdc : std.vdcByteCycles 0 0x3000 0x0002 = Config.vdcByteCycles [] 0 + 1 := rfl
  have hcount : cycleCount (.tin 0x3000 0x0002 1) std = 23 + std.vdcByteCycles 0 0x3000 0x0002 := rfl
  omega

end Sys2Proof.Tests
end

/-!
O24: a timer that runs sets TIQ again and again, whatever the environment does (R12, R531; D21).
Each point at which the environment acts sets TIQ or brings the next borrow closer, by a batch of the
schedule, by periods of the clock, or by one point less to wait for periods.
-/

namespace Sys2Proof.Machine

/-! The down-counter (R531). -/

theorem Io.tick_of_counter_eq_zero {io : Io} (h : io.timer.counter = 0) :
    io.tick = { io with tiq := true, timer := { io.timer with counter := io.timer.reload } } :=
  if_pos h

theorem Io.tick_of_counter_ne_zero {io : Io} (h : io.timer.counter ≠ 0) :
    io.tick = { io with timer := { io.timer with counter := io.timer.counter - 1 } } :=
  if_neg h

/-- No tick clears TIQ. -/
theorem Io.tick_tiq_of_tiq {io : Io} (h : io.tiq = true) : io.tick.tiq = true := by
  by_cases hc : io.timer.counter = 0
  · rw [Io.tick_of_counter_eq_zero hc]
  · rw [Io.tick_of_counter_ne_zero hc]; exact h

theorem Io.ticks_tiq_of_tiq (n : Nat) {io : Io} (h : io.tiq = true) : (Io.ticks n io).tiq = true := by
  induction n generalizing io with
  | zero => exact h
  | succ n ih => exact ih (Io.tick_tiq_of_tiq h)

/-- More ticks than the counter holds include a borrow. -/
theorem Io.ticks_tiq_of_counter_lt (n : Nat) {io : Io} (h : io.timer.counter.toNat < n) :
    (Io.ticks n io).tiq = true := by
  induction n generalizing io with
  | zero => omega
  | succ n ih =>
    by_cases hc : io.timer.counter = 0
    · exact Io.ticks_tiq_of_tiq n (by rw [Io.tick_of_counter_eq_zero hc])
    · refine ih ?_
      rw [Io.tick_of_counter_ne_zero hc]
      bv_omega

/-- No more ticks than the counter holds only count down. -/
theorem Io.ticks_counter_of_le (n : Nat) {io : Io} (h : n ≤ io.timer.counter.toNat) :
    (Io.ticks n io).timer.counter.toNat = io.timer.counter.toNat - n := by
  induction n generalizing io with
  | zero => rfl
  | succ n ih =>
    have hc : io.timer.counter ≠ 0 := by bv_omega
    have hdown : io.tick.timer.counter.toNat = io.timer.counter.toNat - 1 := by
      rw [Io.tick_of_counter_ne_zero hc]
      bv_omega
    rw [Io.ticks, ih (by omega), hdown]
    omega

/-! The clock of a timer that runs. -/

/-- How many periods of PPS3 pass until the borrow that sets TIQ (R531). -/
def Io.periodsLeft (io : Io) : Nat :=
  1024 * io.timer.counter.toNat + (1024 - io.timer.prescaler.toNat)

theorem Io.clock_of_start (n : Nat) {io : Io} (hrun : io.timer.start = true) :
    io.clock n =
      let t := Io.ticks ((io.timer.prescaler.toNat + n) / 1024) io
      { t with timer :=
        { t.timer with prescaler := BitVec.ofNat 10 (io.timer.prescaler.toNat + n) } } :=
  if_pos hrun

/-- Periods of a running clock reach the borrow or bring it closer by as many. -/
theorem Io.clock_periodsLeft (n : Nat) {io : Io} (hrun : io.timer.start = true) :
    (io.clock n).tiq = true ∨ (io.clock n).periodsLeft + n = io.periodsLeft := by
  rw [Io.clock_of_start n hrun]
  by_cases hb : (io.timer.prescaler.toNat + n) / 1024 ≤ io.timer.counter.toNat
  · right
    have hcounter := Io.ticks_counter_of_le _ hb
    simp only [Io.periodsLeft, hcounter, BitVec.toNat_ofNat]
    have hpre := io.timer.prescaler.isLt
    omega
  · left
    exact Io.ticks_tiq_of_counter_lt _ (by omega)

/-! What the environment leaves unchanged. -/

theorem Io.clock_start (n : Nat) (io : Io) : (io.clock n).timer.start = io.timer.start := by
  rw [Io.clock_eq]

theorem Io.clock_schedule (n : Nat) (io : Io) : (io.clock n).schedule = io.schedule := by
  rw [Io.clock_eq]

/-- No event of the environment starts or stops the timer. -/
theorem Io.apply_start (io : Io) (ev : EnvEvent) : (io.apply ev).timer.start = io.timer.start := by
  cases ev with
  | clock n => exact Io.clock_start n io
  | _ => rfl

theorem Io.apply_schedule (io : Io) (ev : EnvEvent) : (io.apply ev).schedule = io.schedule := by
  cases ev with
  | clock n => exact Io.clock_schedule n io
  | _ => rfl

theorem Io.foldl_apply_start (batch : List EnvEvent) (io : Io) :
    (batch.foldl Io.apply io).timer.start = io.timer.start := by
  induction batch generalizing io with
  | nil => rfl
  | cons ev batch ih => exact (ih _).trans (Io.apply_start io ev)

theorem Io.foldl_apply_schedule (batch : List EnvEvent) (io : Io) :
    (batch.foldl Io.apply io).schedule = io.schedule := by
  induction batch generalizing io with
  | nil => rfl
  | cons ev batch ih => exact (ih _).trans (Io.apply_schedule io ev)

theorem Io.elapse_of_schedule_nil {io : Io} (h : io.schedule = []) :
    io.elapse = Io.idleClock { io with glitch := false } := by
  simp [Io.elapse, h]

theorem Io.elapse_of_schedule_cons {io : Io} {batch : List EnvEvent} {rest : List (List EnvEvent)}
    (h : io.schedule = batch :: rest) :
    io.elapse = batch.foldl Io.apply { io with glitch := false, schedule := rest } := by
  simp [Io.elapse, h]

/-- Only the processor starts and stops the timer (R532). -/
theorem Io.elapse_start (io : Io) : io.elapse.timer.start = io.timer.start := by
  cases hs : io.schedule with
  | nil => rw [Io.elapse_of_schedule_nil hs, Io.idleClock_eq]
  | cons batch rest => rw [Io.elapse_of_schedule_cons hs, Io.foldl_apply_start]

/-- Each point at which the environment acts takes one batch of the schedule. -/
theorem Io.elapse_schedule (io : Io) : io.elapse.schedule = io.schedule.tail := by
  cases hs : io.schedule with
  | nil => rw [Io.elapse_of_schedule_nil hs, Io.idleClock_eq]; exact hs
  | cons batch rest => rw [Io.elapse_of_schedule_cons hs, Io.foldl_apply_schedule]; rfl

/-! Every point brings the borrow closer (log 18). -/

/-- With no point left to wait for, at least one period passes. -/
theorem Io.idleClock_of_clockWait_eq_zero {io : Io} (hrun : io.timer.start = true)
    (hw : io.clockWait = 0) : ∃ u : Io, u.timer = io.timer ∧
      io.idleClock = u.clock (Config.idlePeriods io.freeCount + 1) :=
  ⟨_, by rfl, (if_pos hrun).trans (if_pos hw)⟩

theorem Io.idleClock_of_clockWait_ne_zero {io : Io} (hrun : io.timer.start = true)
    (hw : io.clockWait ≠ 0) : io.idleClock = { io with clockWait := io.clockWait - 1 } :=
  (if_pos hrun).trans (if_neg hw)

/-- The idle clock of a running timer sets TIQ, uses up periods, or waits one point less. -/
theorem Io.idleClock_progress {io : Io} (hrun : io.timer.start = true) :
    io.idleClock.tiq = true ∨ io.idleClock.periodsLeft < io.periodsLeft ∨
    io.idleClock.periodsLeft = io.periodsLeft ∧ io.idleClock.clockWait < io.clockWait := by
  by_cases hw : io.clockWait = 0
  · obtain ⟨u, htimer, hidle⟩ := Io.idleClock_of_clockWait_eq_zero hrun hw
    rw [hidle]
    refine (Io.clock_periodsLeft _ (htimer ▸ hrun)).imp_right fun hleft => .inl ?_
    have hsame : u.periodsLeft = io.periodsLeft := by rw [Io.periodsLeft, htimer, Io.periodsLeft]
    omega
  · rw [Io.idleClock_of_clockWait_ne_zero hrun hw]
    exact .inr (.inr ⟨rfl, Nat.sub_one_lt hw⟩)

/-- What is still to come before TIQ is set: batches of the schedule, then periods, then points to wait
for the next of these; compared in this order. -/
def Io.toBorrow (io : Io) : Nat × Nat × Nat :=
  (io.schedule.length, io.periodsLeft, io.clockWait)

theorem Io.elapse_progress {io : Io} (hrun : io.timer.start = true) :
    io.elapse.tiq = true ∨
    Prod.Lex (· < ·) (Prod.Lex (· < ·) (· < ·)) io.elapse.toBorrow io.toBorrow := by
  simp only [Io.toBorrow, Prod.lex_def, Io.elapse_schedule]
  cases hs : io.schedule with
  | nil =>
    rw [Io.elapse_of_schedule_nil hs]
    exact (Io.idleClock_progress (io := { io with glitch := false }) hrun).imp_right
      fun hless => .inr ⟨rfl, hless⟩
  | cons batch rest => exact .inr (.inl (Nat.lt_succ_self _))

/-- A running timer comes to set TIQ, by induction on what is still to come before. -/
theorem Io.exists_elapse_tiq (io : Io) (hrun : io.timer.start = true) :
    ∃ n : Nat, (Io.elapse^[n] io).tiq = true := by
  rcases Io.elapse_progress hrun with htiq | hless
  · exact ⟨1, htiq⟩
  · obtain ⟨n, hn⟩ := Io.exists_elapse_tiq io.elapse ((Io.elapse_start io).trans hrun)
    exact ⟨n + 1, hn⟩
termination_by io.toBorrow
decreasing_by exact hless

/-- Settles O24: the points that have already passed leave an `Io` whose timer runs, and from every such
`Io` TIQ comes to be set. -/
theorem timerKeepsTicking : Obligations.TimerKeepsTicking := by
  unfold Obligations.TimerKeepsTicking
  intro io hrun
  exact Io.exists_elapse_tiq { io with tiq := false } hrun

end Sys2Proof.Machine

/-!
What `exec` can do, said once: the shape of Machine/Ops.lean that each mnemonic has. The proofs over all
instructions (O13, O16, O17) split along these shapes and not along the 234 instructions.
-/

namespace Sys2Proof.Machine

/-- The operations of ADC, AND, EOR and ORA (40_alu_arith_logic.md R201). -/
def aluOp : Mnemonic → Byte → Byte → Flags → Byte × Flags
  | .adc => adcOp
  | .and => andOp
  | .eor => eorOp
  | _ => oraOp

/-- What the instructions that read one operand byte do with it. -/
def operandOp : Mnemonic → State → Byte → State
  | .sbc => State.subtractFromA
  | .cmp => fun s m => s.compareWith s.a m
  | .cpx => fun s m => s.compareWith s.x m
  | .cpy => fun s m => s.compareWith s.y m
  | .lda => State.loadA
  | .ldx => State.loadX
  | .ldy => State.loadY
  | _ => State.bitTest

/-- The shifts and counts that exist on memory and on A (41_alu_shift_incdec.md). -/
def shiftOp : Mnemonic → Byte → Flags → Byte × Flags
  | .asl => aslOp
  | .lsr => lsrOp
  | .rol => rolOp
  | .ror => rorOp
  | .inc => incOp
  | _ => decOp

/-- The bit operations on memory, with the accumulator as it is before the instruction. -/
def bitOp (a : Byte) : Mnemonic → Byte → Flags → Byte × Flags
  | .trb => trbOp a
  | .tsb => tsbOp a
  | .rmb i => rmbOp i
  | .smb i => smbOp i
  | _ => fun v p => (v, p)

/-- The effects of the one-byte instructions that access no data; that of NOP is none. -/
def impliedOp : Mnemonic → State → State
  | .inx => fun s => s.countX incOp
  | .iny => fun s => s.countY incOp
  | .dex => fun s => s.countX decOp
  | .dey => fun s => s.countY decOp
  | .cla => fun s => s.setA 0
  | .clx => fun s => s.setX 0
  | .cly => fun s => s.setY 0
  | .clc => fun s => s.setP { s.p with c := false }
  | .cld => fun s => s.setP { s.p with d := false }
  | .cli => fun s => s.setP { s.p with i := false }
  | .clv => fun s => s.setP { s.p with v := false }
  | .sec => fun s => s.setP { s.p with c := true }
  | .sed => fun s => s.setP { s.p with d := true }
  | .sei => fun s => s.setP { s.p with i := true }
  | .setT => fun s => s.setP { s.p with t := true }
  | .sax => fun s => (s.setA s.x).setX s.a
  | .say => fun s => (s.setA s.y).setY s.a
  | .sxy => fun s => (s.setX s.y).setY s.x
  | .tax => fun s => s.loadX s.a
  | .tay => fun s => s.loadY s.a
  | .tsx => fun s => s.loadX s.sp
  | .txa => fun s => s.loadA s.x
  | .txs => fun s => s.setSp s.x
  | .tya => fun s => s.loadA s.y
  | .csh => fun s => { s with speed := .high }
  | .csl => fun s => { s with speed := .low }
  | _ => fun s => s

/-- What the pull instructions do with the pulled byte. -/
def pullOp : Mnemonic → State → Byte → State
  | .pla => State.loadA
  | .plp => fun s b => s.setP (flagsOfByte b)
  | .plx => State.loadX
  | _ => State.loadY

/-- `Executes s m t`: an instruction with the mnemonic `m` takes `s` to `t`, whatever its operands. -/
def Executes (s : State) (m : Mnemonic) (t : State) : Prop :=
  match m with
  | .adc | .and | .eor | .ora => ∃ src, t = s.aluT (aluOp m) src
  | .sbc | .cmp | .cpx | .cpy | .lda | .ldx | .ldy | .bit =>
    ∃ src, t = s.withOperand src (operandOp m)
  | .asl | .lsr | .rol | .ror | .inc | .dec =>
    (∃ ea, t = s.rmw (shiftOp m) ea) ∨ t = s.rmwA (shiftOp m)
  | .trb | .tsb | .rmb _ | .smb _ => ∃ ea, t = s.rmw (bitOp s.a m) ea
  | .sta | .stx | .sty | .stz => ∃ ea v, t = s.storeTo ea v
  | .tst => ∃ nn ea, t = s.testImm nn ea
  | .inx | .iny | .dex | .dey | .cla | .clx | .cly | .clc | .cld | .cli | .clv | .sec | .sed | .sei
  | .setT | .sax | .say | .sxy | .tax | .tay | .tsx | .txa | .txs | .tya | .nop | .csh | .csl =>
    t = s.implied (impliedOp m)
  | .bcc | .bcs | .beq | .bmi | .bne | .bpl | .bra | .bvc | .bvs => ∃ cond rr, t = s.branchIf cond rr
  | .bbr i | .bbs i => ∃ want zz rr, t = s.branchOnBit i want zz rr
  | .st0 | .st1 | .st2 => ∃ pa nn, t = s.storeImmediate pa nn
  | .pha | .php | .phx | .phy => ∃ v, t = s.pushInstr v
  | .pla | .plp | .plx | .ply => t = s.pullInstr (pullOp m)
  | .bsr | .jsr => ∃ last target, t = s.call last target
  | .rts => t = s.returnFromSubroutine
  | .rti => t = s.returnFromInterrupt
  | .jmp => (∃ target, t = s.clearT.setPc target) ∨ ∃ la, t = s.jumpIndirect la
  | .tii | .tdd | .tin | .tia | .tai =>
    ∃ src dst ssss dddd llll, t = s.blockTransfer src dst ssss dddd llll
  | .tam => ∃ mask, t = (s.clearT.loadMpr mask).advance 2
  | .tma => ∃ mask, t = (s.clearT.setA (s.readMpr mask)).advance 2
  | .brk => t = s.clearT.enterInterrupt vectorIrq2 true (s.pc + 2)

/-- The next state is the one answered. -/
theorem eq_of_next {t u : State} (h : (.next u : Result) = .next t) : t = u :=
  (Host.Outcome.next.inj h).symm

/-- A clause that excepts the mnemonics of a list says nothing of a mnemonic in it. -/
theorem excepted {l : List Mnemonic} {m : Mnemonic} {P : Prop} (h : l.contains m = true)
    (hn : m ∉ l) : P :=
  absurd (List.mem_of_elem_eq_true h) hn

/-- Every instruction that answers a next state has the shape of its mnemonic. -/
theorem executes_of_exec {i : Instr} {s t : State} (h : exec i s = .next t) :
    Executes s i.mnemonic t := by
  cases i with
  | adcImm _ | adcZp _ | adcZpX _ | adcInd _ | adcIndX _ | adcIndY _ | adcAbs _ | adcAbsX _
  | adcAbsY _ | andImm _ | andZp _ | andZpX _ | andInd _ | andIndX _ | andIndY _ | andAbs _
  | andAbsX _ | andAbsY _ | eorImm _ | eorZp _ | eorZpX _ | eorInd _ | eorIndX _ | eorIndY _
  | eorAbs _ | eorAbsX _ | eorAbsY _ | oraImm _ | oraZp _ | oraZpX _ | oraInd _ | oraIndX _
  | oraIndY _ | oraAbs _ | oraAbsX _ | oraAbsY _ => exact ⟨_, eq_of_next h⟩
  | sbcImm _ | sbcZp _ | sbcZpX _ | sbcInd _ | sbcIndX _ | sbcIndY _ | sbcAbs _ | sbcAbsX _
  | sbcAbsY _ | cmpImm _ | cmpZp _ | cmpZpX _ | cmpInd _ | cmpIndX _ | cmpIndY _ | cmpAbs _
  | cmpAbsX _ | cmpAbsY _ | cpxImm _ | cpxZp _ | cpxAbs _ | cpyImm _ | cpyZp _ | cpyAbs _
  | ldaImm _ | ldaZp _ | ldaZpX _ | ldaInd _ | ldaIndX _ | ldaIndY _ | ldaAbs _ | ldaAbsX _
  | ldaAbsY _ | ldxImm _ | ldxZp _ | ldxZpY _ | ldxAbs _ | ldxAbsY _ | ldyImm _ | ldyZp _
  | ldyZpX _ | ldyAbs _ | ldyAbsX _ | bitImm _ | bitZp _ | bitZpX _ | bitAbs _ | bitAbsX _ =>
    exact ⟨_, eq_of_next h⟩
  | aslZp _ | aslZpX _ | aslAbs _ | aslAbsX _ | lsrZp _ | lsrZpX _ | lsrAbs _ | lsrAbsX _
  | rolZp _ | rolZpX _ | rolAbs _ | rolAbsX _ | rorZp _ | rorZpX _ | rorAbs _ | rorAbsX _
  | incZp _ | incZpX _ | incAbs _ | incAbsX _ | decZp _ | decZpX _ | decAbs _ | decAbsX _ =>
    exact Or.inl ⟨_, eq_of_next h⟩
  | aslAcc | lsrAcc | rolAcc | rorAcc | incAcc | decAcc => exact Or.inr (eq_of_next h)
  | trbZp _ | trbAbs _ | tsbZp _ | tsbAbs _ | rmb0 _ | rmb1 _ | rmb2 _ | rmb3 _ | rmb4 _ | rmb5 _
  | rmb6 _ | rmb7 _ | smb0 _ | smb1 _ | smb2 _ | smb3 _ | smb4 _ | smb5 _ | smb6 _ | smb7 _ =>
    exact ⟨_, eq_of_next h⟩
  | staZp _ | staZpX _ | staInd _ | staIndX _ | staIndY _ | staAbs _ | staAbsX _ | staAbsY _
  | stxZp _ | stxZpY _ | stxAbs _ | styZp _ | styZpX _ | styAbs _ | stzZp _ | stzZpX _ | stzAbs _
  | stzAbsX _ => exact ⟨_, _, eq_of_next h⟩
  | tstImmZp _ _ | tstImmAbs _ _ | tstImmZpX _ _ | tstImmAbsX _ _ => exact ⟨_, _, eq_of_next h⟩
  | inx | iny | dex | dey | cla | clx | cly | clc | cld | cli | clv | sec | sed | sei | setT
  | sax | say | sxy | tax | tay | tsx | txa | txs | tya | nop | csh | csl => exact eq_of_next h
  | bcc _ | bcs _ | beq _ | bmi _ | bne _ | bpl _ | bra _ | bvc _ | bvs _ =>
    exact ⟨_, _, eq_of_next h⟩
  | bbr0 _ _ | bbr1 _ _ | bbr2 _ _ | bbr3 _ _ | bbr4 _ _ | bbr5 _ _ | bbr6 _ _ | bbr7 _ _
  | bbs0 _ _ | bbs1 _ _ | bbs2 _ _ | bbs3 _ _ | bbs4 _ _ | bbs5 _ _ | bbs6 _ _ | bbs7 _ _ =>
    exact ⟨_, _, _, eq_of_next h⟩
  | st0 _ | st1 _ | st2 _ => exact ⟨_, _, eq_of_next h⟩
  | pha | php | phx | phy => exact ⟨_, eq_of_next h⟩
  | pla | plp | plx | ply => exact eq_of_next h
  | bsr _ | jsr _ => exact ⟨_, _, eq_of_next h⟩
  | rts | rti => exact eq_of_next h
  | jmpAbs _ => exact Or.inl ⟨_, eq_of_next h⟩
  | jmpAbsInd _ | jmpAbsXInd _ => exact Or.inr ⟨_, eq_of_next h⟩
  | tii _ _ _ | tdd _ _ _ | tin _ _ _ | tia _ _ _ | tai _ _ _ =>
    exact ⟨_, _, _, _, _, eq_of_next h⟩
  | tam _ => exact ⟨_, eq_of_next h⟩
  | tma mask =>
    rw [exec_tma] at h
    split at h
    · exact ⟨mask, eq_of_next h⟩
    · cases h
  | brk => exact eq_of_next h

end Sys2Proof.Machine

/-!
O12 and O13: the invariant. A step has three kinds (10_state.md R54), each named by `step_cases`. Memory
stays canonical because every write goes through `State.memWrite` or `State.physWrite`; NMI is selected only
while latched because each step ends with no selection or with a sample.
-/

namespace Sys2Proof.Machine

/-! The kinds of step. -/

theorem State.planFetch_of_decode {s : State} {i : Instr} {rest : List Byte}
    (h : decode s.fetch.1 = .ok (i, rest)) : s.planFetch = .run i s.fetch.2 := by
  delta State.planFetch
  extract_lets f
  rw [show decode f.1 = _ from h]

theorem State.planFetch_of_error {s : State} {e : DecodeError} (h : decode s.fetch.1 = .error e) :
    s.planFetch = .refuse (.illegalOpcode (s.fetch.1.headD 0)) := by
  delta State.planFetch
  extract_lets f
  rw [show decode f.1 = _ from h]

theorem State.plan_of_reset {s : State} (h : s.elapse.io.resetPending = true) :
    s.plan = .done s.elapse.systemReset :=
  if_pos h

theorem State.plan_of_interrupt {s : State} (h : s.elapse.io.resetPending = false)
    (hsel : s.intSel ≠ .none) :
    s.plan = .done ((s.elapse.enterHardware s.intSel).sample true) := by
  delta State.plan
  rw [h]
  cases hk : s.intSel with
  | none => exact absurd hk hsel
  | nmi => rfl
  | timer => rfl
  | irq1 => rfl
  | irq2 => rfl

theorem State.plan_of_fetch {s : State} (h : s.elapse.io.resetPending = false)
    (hsel : s.intSel = .none) : s.plan = s.elapse.planFetch := by
  delta State.plan
  rw [h, hsel]
  rfl

theorem step_of_plan_done {s t : State} (h : s.plan = .done t) : step s = .next t := by
  delta step
  rw [h]

theorem step_of_plan_refuse {s : State} {r : Refusal} (h : s.plan = .refuse r) :
    step s = .refused r := by
  delta step
  rw [h]

theorem step_of_plan_run {s s1 : State} {i : Instr} (h : s.plan = .run i s1) :
    step s = match exec i s1 with
      | .next u => .next (State.sampleAfter i s1 u)
      | .fault f => .fault f
      | .refused r => .refused r := by
  delta step
  rw [h] <;> rfl

/-- The three kinds of step that answer a next state: a RESET, the entry of the selected interrupt with its
sample, or one instruction with its sample. -/
theorem step_cases {s t : State} (h : step s = .next t) :
    (s.elapse.io.resetPending = true ∧ t = s.elapse.systemReset) ∨
    (s.intSel ≠ .none ∧ t = (s.elapse.enterHardware s.intSel).sample true) ∨
    (∃ i u, exec i s.elapse.fetch.2 = .next u ∧ t = State.sampleAfter i s.elapse.fetch.2 u) := by
  cases hreset : s.elapse.io.resetPending with
  | true =>
    rw [step_of_plan_done (State.plan_of_reset hreset)] at h
    exact .inl ⟨rfl, eq_of_next h⟩
  | false =>
    by_cases hsel : s.intSel = .none
    · have hplan := State.plan_of_fetch hreset hsel
      cases hdec : decode s.elapse.fetch.1 with
      | error e =>
        rw [step_of_plan_refuse (hplan.trans (State.planFetch_of_error hdec))] at h
        cases h
      | ok r =>
        rw [step_of_plan_run (hplan.trans (State.planFetch_of_decode (i := r.1) hdec))] at h
        cases hexec : exec r.1 s.elapse.fetch.2 with
        | next u =>
          rw [hexec] at h
          exact .inr (.inr ⟨r.1, u, hexec, eq_of_next h⟩)
        | fault f => rw [hexec] at h; cases h
        | refused r => rw [hexec] at h; cases h
    · rw [step_of_plan_done (State.plan_of_interrupt hreset hsel)] at h
      exact .inr (.inl ⟨hsel, eq_of_next h⟩)

/-! Memory stays canonical. -/

theorem operandOp_mem (m : Mnemonic) (s : State) (b : Byte) : (operandOp m s b).mem = s.mem := by
  cases m <;> rfl

theorem impliedOp_mem (m : Mnemonic) (s : State) : (impliedOp m s).mem = s.mem := by
  cases m <;> rfl

theorem pullOp_mem (m : Mnemonic) (s : State) (b : Byte) : (pullOp m s b).mem = s.mem := by
  cases m <;> rfl

theorem State.pushWord_ok (s : State) (w : Word) (h : s.mem.ok) : (s.pushWord w).mem.ok :=
  State.push_ok _ _ (s.push_ok _ h)

theorem State.enterInterrupt_ok (s : State) (vector ret : Word) (b : Bool) (h : s.mem.ok) :
    (s.enterInterrupt vector b ret).mem.ok := by
  rw [s.enterInterrupt_eq]
  exact State.memWrite_ok _ _ _ (State.memWrite_ok _ _ _ (s.memWrite_ok _ _ h))

theorem State.enterHardware_ok (s : State) (sel : IntSel) (h : s.mem.ok) :
    (s.enterHardware sel).mem.ok := by
  cases sel with
  | none => exact h
  | nmi => exact s.clearNmi.enterInterrupt_ok _ _ _ h
  | timer => exact s.enterInterrupt_ok _ _ _ h
  | irq1 => exact s.enterInterrupt_ok _ _ _ h
  | irq2 => exact s.enterInterrupt_ok _ _ _ h

theorem State.blockTransfer_ok (s : State) (src dst : Motion) (ssss dddd llll : Word)
    (h : s.mem.ok) : (s.blockTransfer src dst ssss dddd llll).mem.ok := by
  have hpushed : (((s.clearT.push s.y).push s.a).push s.x).mem.ok :=
    State.push_ok _ _ (State.push_ok _ _ (s.clearT.push_ok _ h))
  have hmoved := State.blockLoop_ok src dst (blockCount llll)
    ((((s.clearT.push s.y).push s.a).push s.x).loadBlockRegs ssss dddd llll) ssss dddd llll false hpushed
  delta State.blockTransfer
  simpa using hmoved

theorem State.aluT_ok (s : State) (op : Byte → Byte → Flags → Byte × Flags) (src : Source)
    (h : s.mem.ok) : (s.aluT op src).mem.ok := by
  cases ht : s.p.t with
  | false => rw [s.aluT_accumulator op src ht]; exact h
  | true => rw [s.aluT_zeroPage op src ht]; exact State.memWrite_ok _ _ _ (by simpa using h)

theorem State.rmw_ok (s : State) (op : Byte → Flags → Byte × Flags) (ea : Ea) (h : s.mem.ok) :
    (s.rmw op ea).mem.ok := by
  rw [s.rmw_eq]
  exact State.memWrite_ok _ _ _ (by simpa using h)

/-- No instruction takes memory out of its canonical form or writes it into block $FF. -/
theorem Executes.mem_ok {s t : State} {m : Mnemonic} (h : Executes s m t) (hs : s.mem.ok) :
    t.mem.ok := by
  cases m with
  | adc | and | eor | ora =>
    obtain ⟨src, rfl⟩ := h
    exact s.aluT_ok _ src hs
  | sbc | cmp | cpx | cpy | lda | ldx | ldy | bit =>
    obtain ⟨src, rfl⟩ := h
    rw [s.withOperand_eq, State.advance_mem, operandOp_mem]
    exact hs
  | asl | lsr | rol | ror | inc | dec =>
    obtain ⟨ea, rfl⟩ | rfl := h
    · exact s.rmw_ok _ ea hs
    · exact hs
  | trb | tsb | rmb _ | smb _ =>
    obtain ⟨ea, rfl⟩ := h
    exact s.rmw_ok _ ea hs
  | sta | stx | sty | stz =>
    obtain ⟨ea, v, rfl⟩ := h
    rw [s.storeTo_eq]
    exact State.memWrite_ok _ _ _ (by simpa using hs)
  | tst =>
    obtain ⟨nn, ea, rfl⟩ := h
    rw [s.testImm_eq]
    exact hs
  | inx | iny | dex | dey | cla | clx | cly | clc | cld | cli | clv | sec | sed | sei | setT | sax
  | say | sxy | tax | tay | tsx | txa | txs | tya | nop | csh | csl =>
    rw [show t = _ from h, State.implied, State.advance_mem, impliedOp_mem]
    exact hs
  | bcc | bcs | beq | bmi | bne | bpl | bra | bvc | bvs =>
    obtain ⟨cond, rr, rfl⟩ := h
    rw [s.branchIf_eq]
    exact hs
  | bbr _ | bbs _ =>
    obtain ⟨want, zz, rr, rfl⟩ := h
    rw [s.branchOnBit_eq]
    exact hs
  | st0 | st1 | st2 =>
    obtain ⟨pa, nn, rfl⟩ := h
    rw [s.storeImmediate_eq]
    exact ⟨s.physWrite_wf pa nn hs.1, s.physWrite_below pa nn hs.2⟩
  | pha | php | phx | phy =>
    obtain ⟨v, rfl⟩ := h
    rw [s.pushInstr_eq]
    exact s.memWrite_ok _ _ hs
  | pla | plp | plx | ply =>
    rw [show t = _ from h, s.pullInstr_eq, State.advance_mem, pullOp_mem]
    exact hs
  | bsr | jsr =>
    obtain ⟨last, target, rfl⟩ := h
    exact s.clearT.pushWord_ok last hs
  | rts => rw [show t = _ from h, s.returnFromSubroutine_eq]; exact hs
  | rti => rw [show t = _ from h, s.returnFromInterrupt_eq]; exact hs
  | jmp =>
    obtain ⟨target, rfl⟩ | ⟨la, rfl⟩ := h
    · exact hs
    · rw [s.jumpIndirect_eq]
      exact hs
  | tii | tdd | tin | tia | tai =>
    obtain ⟨src, dst, ssss, dddd, llll, rfl⟩ := h
    exact s.blockTransfer_ok src dst ssss dddd llll hs
  | tam =>
    obtain ⟨mask, rfl⟩ := h
    exact hs
  | tma =>
    obtain ⟨mask, rfl⟩ := h
    exact hs
  | brk => exact (show t = _ from h) ▸ s.clearT.enterInterrupt_ok _ _ _ hs

/-! The invariant. -/

theorem State.Inv.mem_ok {s : State} (h : s.Inv) : s.mem.ok := ⟨h.memCanonical, h.memExternal⟩

/-- A sample selects NMI only while its edge is latched (60_exceptions.md R510). -/
theorem Io.nmiPending_of_select {io : Io} {m : Bool} (h : io.select m = .nmi) :
    io.nmiPending = true := by
  delta Io.select at h
  by_contra hn
  rw [if_neg hn] at h
  split_ifs at h

/-- A sample gives the invariant to any state whose memory is canonical. -/
theorem State.sample_inv {s : State} (h : s.mem.ok) (iEff : Bool) : (s.sample iEff).Inv :=
  ⟨h.1, h.2, Io.nmiPending_of_select⟩

theorem State.systemReset_inv {s : State} (h : s.mem.ok) : s.systemReset.Inv := by
  obtain ⟨pc, io, heq⟩ := s.systemReset_eq
  rw [heq]
  exact ⟨h.1, h.2, nofun⟩

theorem State.fetch_mem (s : State) : s.fetch.2.mem = s.mem := by
  rw [State.fetch_eq]

/-- Settles O13: a RESET selects nothing; an entry and an instruction end with a sample; and each leaves
memory canonical. -/
theorem stepKeepsInvariant : Obligations.StepKeepsInvariant := by
  intro s t hinv hstep
  have hok : s.elapse.mem.ok := hinv.mem_ok
  obtain ⟨-, rfl⟩ | ⟨-, rfl⟩ | ⟨i, u, hexec, rfl⟩ := step_cases hstep
  · exact State.systemReset_inv hok
  · exact State.sample_inv (s.elapse.enterHardware_ok _ hok) true
  · have hfetched : s.elapse.fetch.2.mem.ok := by rwa [State.fetch_mem]
    exact State.sample_inv ((executes_of_exec hexec).mem_ok hfetched) _

/-- Settles O12: the memory of `State.reset` is empty and no interrupt is selected. -/
theorem resetHasInvariant : Obligations.ResetHasInvariant :=
  ⟨rfl, rfl, nofun⟩

end Sys2Proof.Machine

/-!
O6 and O7: a step runs the instruction whose bytes it fetches. Decoding takes an encoding back, so the fetched
bytes decide the instruction; at rest the fetch answers what memory holds and leaves the state as it is.
-/

namespace Sys2Proof

/-! Decoding takes an encoding back (30_encoding.md R150, R174). -/

theorem OpcodeCell.build_op0 (i : Instr) (rest : List Byte) :
    (OpcodeCell.op0 i).build ([] ++ rest) = some (i, rest) := rfl

theorem OpcodeCell.build_op1 (f : Byte → Instr) (b : Byte) (rest : List Byte) :
    (OpcodeCell.op1 f).build ([b] ++ rest) = some (f b, rest) := rfl

theorem OpcodeCell.build_op2 (f : Byte → Byte → Instr) (b c : Byte) (rest : List Byte) :
    (OpcodeCell.op2 f).build ([b, c] ++ rest) = some (f b c, rest) := rfl

theorem OpcodeCell.build_opW (f : Word → Instr) (w : Word) (rest : List Byte) :
    (OpcodeCell.opW f).build (wordBytes w ++ rest) = some (f w, rest) := by
  show some (f (joinBytes (hiByte w) (loByte w)), rest) = _
  rw [joinBytes_hiByte_loByte]

theorem OpcodeCell.build_opBW (f : Byte → Word → Instr) (b : Byte) (w : Word) (rest : List Byte) :
    (OpcodeCell.opBW f).build (b :: wordBytes w ++ rest) = some (f b w, rest) :=
  OpcodeCell.build_opW (f b) w rest

theorem OpcodeCell.build_opBlk (f : Word → Word → Word → Instr) (u v w : Word) (rest : List Byte) :
    (OpcodeCell.opBlk f).build (wordBytes u ++ wordBytes v ++ wordBytes w ++ rest) =
      some (f u v w, rest) := by
  show some (f (joinBytes (hiByte u) (loByte u)) (joinBytes (hiByte v) (loByte v))
    (joinBytes (hiByte w) (loByte w)), rest) = _
  rw [joinBytes_hiByte_loByte, joinBytes_hiByte_loByte, joinBytes_hiByte_loByte]

/-- The cell of an instruction's opcode byte reads its operand bytes back: the opcode map
(30_encoding.md R175) has every instruction where its opcode byte points. -/
theorem build_bytes (i : Instr) (rest : List Byte) :
    (opcodeCell i.opcode).build (i.form.bytes ++ rest) = some (i, rest) := by
  delta Instr.opcode
  cases i with dsimp only
  | aslAcc | lsrAcc | rolAcc | rorAcc | incAcc | decAcc | inx | iny | dex | dey | cla | clx
  | cly | clc | cld | cli | clv | sec | sed | sei | setT | sax | say | sxy | tax | tay | tsx
  | txa | txs | tya | pha | php | phx | phy | pla | plp | plx | ply | rti | rts | brk | nop
  | csh | csl => exact OpcodeCell.build_op0 _ rest
  | adcImm b | adcZp b | adcZpX b | adcInd b | adcIndX b | adcIndY b | andImm b | andZp b
  | andZpX b | andInd b | andIndX b | andIndY b | cmpImm b | cmpZp b | cmpZpX b | cmpInd b
  | cmpIndX b | cmpIndY b | cpxImm b | cpxZp b | cpyImm b | cpyZp b | eorImm b | eorZp b
  | eorZpX b | eorInd b | eorIndX b | eorIndY b | oraImm b | oraZp b | oraZpX b | oraInd b
  | oraIndX b | oraIndY b | sbcImm b | sbcZp b | sbcZpX b | sbcInd b | sbcIndX b | sbcIndY b
  | aslZp b | aslZpX b | lsrZp b | lsrZpX b | rolZp b | rolZpX b | rorZp b | rorZpX b | incZp b
  | incZpX b | decZp b | decZpX b | ldaImm b | ldaZp b | ldaZpX b | ldaInd b | ldaIndX b
  | ldaIndY b | ldxImm b | ldxZp b | ldxZpY b | ldyImm b | ldyZp b | ldyZpX b | staZp b
  | staZpX b | staInd b | staIndX b | staIndY b | stxZp b | stxZpY b | styZp b | styZpX b
  | stzZp b | stzZpX b | st0 b | st1 b | st2 b | tam b | tma b | bcc b | bcs b | beq b | bmi b
  | bne b | bpl b | bra b | bvc b | bvs b | bsr b | bitImm b | bitZp b | bitZpX b | trbZp b
  | tsbZp b | rmb0 b | rmb1 b | rmb2 b | rmb3 b | rmb4 b | rmb5 b | rmb6 b | rmb7 b | smb0 b
  | smb1 b | smb2 b | smb3 b | smb4 b | smb5 b | smb6 b | smb7 b =>
    exact OpcodeCell.build_op1 _ b rest
  | bbr0 b c | bbr1 b c | bbr2 b c | bbr3 b c | bbr4 b c | bbr5 b c | bbr6 b c | bbr7 b c
  | bbs0 b c | bbs1 b c | bbs2 b c | bbs3 b c | bbs4 b c | bbs5 b c | bbs6 b c | bbs7 b c
  | tstImmZp b c | tstImmZpX b c => exact OpcodeCell.build_op2 _ b c rest
  | adcAbs w | adcAbsX w | adcAbsY w | andAbs w | andAbsX w | andAbsY w | cmpAbs w | cmpAbsX w
  | cmpAbsY w | cpxAbs w | cpyAbs w | eorAbs w | eorAbsX w | eorAbsY w | oraAbs w | oraAbsX w
  | oraAbsY w | sbcAbs w | sbcAbsX w | sbcAbsY w | aslAbs w | aslAbsX w | lsrAbs w | lsrAbsX w
  | rolAbs w | rolAbsX w | rorAbs w | rorAbsX w | incAbs w | incAbsX w | decAbs w | decAbsX w
  | ldaAbs w | ldaAbsX w | ldaAbsY w | ldxAbs w | ldxAbsY w | ldyAbs w | ldyAbsX w | staAbs w
  | staAbsX w | staAbsY w | stxAbs w | styAbs w | stzAbs w | stzAbsX w | jmpAbs w | jmpAbsInd w
  | jmpAbsXInd w | jsr w | bitAbs w | bitAbsX w | trbAbs w | tsbAbs w =>
    exact OpcodeCell.build_opW _ w rest
  | tstImmAbs b w | tstImmAbsX b w => exact OpcodeCell.build_opBW _ b w rest
  | tii u v w | tdd u v w | tin u v w | tia u v w | tai u v w =>
    exact OpcodeCell.build_opBlk _ u v w rest

/-- What a cell makes of exactly its bytes says how many there are. -/
theorem OpcodeCell.operandBytes_of_build {c : OpcodeCell} {bytes : List Byte} {i : Instr}
    (h : c.build bytes = some (i, [])) : c.operandBytes = some bytes.length := by
  cases c with
  | undef => cases h
  | op0 _ => cases h; rfl
  | op1 _ => rcases bytes with _ | ⟨_, _⟩ <;> cases h <;> rfl
  | op2 _ => rcases bytes with _ | ⟨_, _ | ⟨_, _⟩⟩ <;> cases h <;> rfl
  | opW _ => rcases bytes with _ | ⟨_, _ | ⟨_, _⟩⟩ <;> cases h <;> rfl
  | opBW _ => rcases bytes with _ | ⟨_, _ | ⟨_, _ | ⟨_, _⟩⟩⟩ <;> cases h <;> rfl
  | opBlk _ =>
    rcases bytes with _ | ⟨_, _ | ⟨_, _ | ⟨_, _ | ⟨_, _ | ⟨_, _ | ⟨_, _⟩⟩⟩⟩⟩⟩ <;> cases h <;> rfl

theorem operandBytes_opcode (i : Instr) :
    (opcodeCell i.opcode).operandBytes = some i.form.bytes.length :=
  OpcodeCell.operandBytes_of_build (by simpa using build_bytes i [])

/-- Decoding an encoding gives the instruction back, whatever follows. -/
theorem decode_encode (i : Instr) (rest : List Byte) : decode (encode i ++ rest) = .ok (i, rest) := by
  delta encode decode
  simp only [List.cons_append, operandBytes_opcode, build_bytes]

end Sys2Proof

namespace Sys2Proof.Machine

/-- Settles O6: the fetched bytes decode to the instruction they encode. -/
theorem stepRunsDecodedInstruction : Obligations.StepRunsDecodedInstruction := by
  intro s t i hreset hsel hfetch
  have hdec : decode s.elapse.fetch.1 = .ok (i, []) := by
    rw [hfetch]
    simpa using decode_encode i []
  have hplan : s.plan = .run i t := by
    rw [State.plan_of_fetch hreset hsel, State.planFetch_of_decode hdec, hfetch]
  exact step_of_plan_run hplan

/-! The fetch at rest. -/

/-- What `State.atRest` says of the next point at which the environment can act. -/
theorem State.elapse_of_atRest {s : State} (h : s.atRest = true) :
    s.elapse = s ∧ s.io.resetPending = false := by
  delta State.atRest at h
  simp only [Bool.and_eq_true, Bool.not_eq_true', List.isEmpty_iff] at h
  obtain ⟨⟨⟨hschedule, hstart⟩, hglitch⟩, hreset⟩ := h
  exact ⟨s.elapse_quiet hschedule hstart hglitch, hreset⟩

theorem State.holds_cons {s : State} {la : Word} {b : Byte} {bytes : List Byte} :
    s.holds la (b :: bytes) = true ↔
      s.isMemory (s.translate la) = true ∧ s.peek (s.translate la) = b ∧
        s.holds (la + 1) bytes = true := by
  show (s.isMemory (s.translate la) && s.peek (s.translate la) == b &&
    s.holds (la + 1) bytes) = true ↔ _
  simp [and_assoc]

/-- At rest a read of a byte that RAM or ROM holds answers it and changes nothing. -/
theorem State.memRead_of_quiet {s : State} {la : Word} (hquiet : s.elapse = s)
    (h : s.isMemory (s.translate la) = true) : s.memRead la = (s.peek (s.translate la), s) := by
  rw [s.memRead_memory la h, hquiet]

theorem State.fetchBytes_succ (n : Nat) (s : State) (la : Word) :
    State.fetchBytes (n + 1) s la =
      ((s.memRead la).1 :: (State.fetchBytes n (s.memRead la).2 (la + 1)).1,
        (State.fetchBytes n (s.memRead la).2 (la + 1)).2) := rfl

theorem State.fetchBytes_of_holds {s : State} (hquiet : s.elapse = s) (bytes : List Byte) (la : Word)
    (h : s.holds la bytes = true) : State.fetchBytes bytes.length s la = (bytes, s) := by
  induction bytes generalizing la with
  | nil => rfl
  | cons b bytes ih =>
    obtain ⟨hmem, hb, htail⟩ := State.holds_cons.1 h
    simp only [List.length_cons, State.fetchBytes_succ, State.memRead_of_quiet hquiet hmem, hb,
      ih (la + 1) htail]

theorem State.fetch_of_holds {s : State} (hquiet : s.elapse = s) (op : Byte) (bytes : List Byte)
    (hlen : (opcodeCell op).operandBytes = some bytes.length)
    (h : s.holds s.pc (op :: bytes) = true) : s.fetch = (op :: bytes, s) := by
  obtain ⟨hmem, hop, htail⟩ := State.holds_cons.1 h
  delta State.fetch
  simp only [State.memRead_of_quiet hquiet hmem, hop, hlen,
    State.fetchBytes_of_holds hquiet bytes _ htail]

/-- Settles O7: at rest the fetch is what memory holds, and O6 says what the step then runs. -/
theorem stepRunsInstructionInMemory : Obligations.StepRunsInstructionInMemory := by
  intro s i hrest hsel hholds
  obtain ⟨hquiet, hreset⟩ := State.elapse_of_atRest hrest
  have hfetch : s.fetch = (encode i, s) :=
    State.fetch_of_holds hquiet i.opcode i.form.bytes (operandBytes_opcode i) hholds
  exact stepRunsDecodedInstruction s s i (by rw [hquiet]; exact hreset) hsel
    (by rw [hquiet]; exact hfetch)

end Sys2Proof.Machine

/-!
O10 and O11: reset (10_state.md R55, 70_reset_and_hazards.md R600, R601). After RESET the timer stands still,
so with the schedule at its end nothing can happen while the two vector bytes are read.
-/

namespace Sys2Proof.Machine

/-- Settles O10: `State.reset` is written out field by field. -/
theorem resetStateValues : Obligations.ResetStateValues :=
  ⟨rfl, rfl, rfl, rfl, rfl, rfl, rfl, rfl, rfl, rfl, rfl, rfl⟩

/-- With the schedule at its end and the timer stopped, the environment only drops an old mark. -/
theorem Io.elapse_of_stopped {io : Io} (hschedule : io.schedule = [])
    (hstart : io.timer.start = false) : io.elapse = { io with glitch := false } :=
  (Io.elapse_of_schedule_nil hschedule).trans (Io.idleClock_stopped hstart)

/-- A read while nothing can happen records its access and counts its draw; block $FF is as it was. -/
theorem State.physRead_io_of_stopped {s : State} (hschedule : s.io.schedule = [])
    (hstart : s.io.timer.start = false) (pa : PhysAddr) :
    ∃ log count, (s.physRead pa).2.io =
      { s.io with glitch := false, deviceLog := log, freeCount := count } := by
  obtain ⟨log, count, h⟩ := s.physRead_snd pa
  rw [h, Io.elapse_of_stopped hschedule hstart]
  exact ⟨log, count, rfl⟩

/-- With the schedule at its end the two reads of the reset vector leave block $FF as RESET made it. -/
theorem State.systemReset_io {s : State} (hschedule : s.io.schedule = []) :
    ∃ log count, s.systemReset.io =
      { s.resetRegisters.io with glitch := false, deviceLog := log, freeCount := count } := by
  obtain ⟨log, count, hlo⟩ :=
    State.physRead_io_of_stopped (s := s.resetRegisters) hschedule rfl 0x001FFE#21
  obtain ⟨log', count', hhi⟩ :=
    State.physRead_io_of_stopped (s := (s.resetRegisters.physRead 0x001FFE#21).2)
      (by rw [hlo]; exact hschedule) (by rw [hlo]; rfl) 0x001FFF#21
  exact ⟨log', count', hhi.trans (by rw [hlo])⟩

/-- The low byte of the program counter after RESET, where memory holds the vector. -/
theorem State.loByte_systemReset_pc {s : State} (h : s.isMemory 0x001FFE#21 = true) :
    loByte s.systemReset.pc = s.peek 0x001FFE#21 := by
  have hread := s.resetRegisters.physRead_memory 0x001FFE#21 h
  exact (loByte_joinBytes _ _).trans (congrArg Prod.fst hread)

/-- The high byte of the program counter after RESET, where memory holds the vector. -/
theorem State.hiByte_systemReset_pc {s : State} (h : s.isMemory 0x001FFF#21 = true) :
    hiByte s.systemReset.pc = s.peek 0x001FFF#21 := by
  let u := (s.resetRegisters.physRead 0x001FFE#21).2
  have hmemory : u.isMemory 0x001FFF#21 = true := by
    rw [State.isMemory_congr (s.resetRegisters.physRead_platform _)]
    exact h
  have hpeek : u.peek 0x001FFF#21 = s.peek 0x001FFF#21 :=
    State.peek_congr (s := s) (s.resetRegisters.physRead_mem _) _
  exact ((hiByte_joinBytes _ _).trans (congrArg Prod.fst (u.physRead_memory _ hmemory))).trans hpeek

/-- Settles O11: the step takes the RESET; the registers have the values of `State.resetRegisters`, block $FF
keeps its values over the reads of the vector, and the program counter is what those reads answer. -/
theorem resetTaken : Obligations.ResetTaken := by
  intro s hreset hschedule
  refine ⟨s.elapse.systemReset, step_of_plan_done (State.plan_of_reset hreset), ?_⟩
  have hlo := State.loByte_systemReset_pc (s := s.elapse)
  have hhi := State.hiByte_systemReset_pc (s := s.elapse)
  obtain ⟨log, count, hio⟩ := State.systemReset_io (s := s.elapse) hschedule
  obtain ⟨pc, io, heq⟩ := s.elapse.systemReset_eq
  rw [heq] at hio hlo hhi ⊢
  obtain rfl : io = _ := hio
  exact ⟨rfl, rfl, rfl, rfl, rfl, rfl, rfl, rfl, rfl, rfl, rfl, rfl, fun _ => rfl, rfl, hlo, hhi⟩

end Sys2Proof.Machine

/-!
O16: who writes the special registers. Most shapes leave all of them (`SpecialRule.of_kept`), the stack
instructions and TXS leave all but S (`SpecialRule.of_stack`); TAM, CSH and CSL, the block transfers and BRK
write the rest.
-/

namespace Sys2Proof.Machine

/-- The registers O16 speaks of: the mapping registers and the TAM latch, the speed mode, SH, DH and LH, S,
and the selected interrupt. -/
def State.special (s : State) : (Mpr × Byte) × Speed × (Byte × Byte × Byte) × Byte × IntSel :=
  ((s.mpr, s.mprLatch), s.speed, (s.sh, s.dh, s.lh), s.sp, s.intSel)

/-- The instructions that write S (10_state.md R35). -/
def spWriters : List Mnemonic :=
  [.txs, .pha, .php, .phx, .phy, .pla, .plp, .plx, .ply, .bsr, .jsr, .rts, .rti, .brk]

/-- What O16 says of an instruction with the mnemonic `m` that takes `s` to `t`. -/
def SpecialRule (m : Mnemonic) (s t : State) : Prop :=
  (m ≠ .tam → t.mpr = s.mpr ∧ t.mprLatch = s.mprLatch) ∧
  (m ∉ [Mnemonic.csh, .csl] → t.speed = s.speed) ∧
  (m ∉ [Mnemonic.tii, .tdd, .tin, .tia, .tai] → t.sh = s.sh ∧ t.dh = s.dh ∧ t.lh = s.lh) ∧
  (m ∉ spWriters → t.sp = s.sp) ∧
  (m ≠ .brk → t.intSel = s.intSel)

theorem State.special_eq_iff {s t : State} : t.special = s.special ↔
    (t.mpr = s.mpr ∧ t.mprLatch = s.mprLatch) ∧ t.speed = s.speed ∧
      (t.sh = s.sh ∧ t.dh = s.dh ∧ t.lh = s.lh) ∧ t.sp = s.sp ∧ t.intSel = s.intSel := by
  delta State.special
  simp only [Prod.mk.injEq]

/-- An instruction that keeps every special register meets the rule, whatever its mnemonic. -/
theorem SpecialRule.of_kept {m : Mnemonic} {s t : State} (h : t.special = s.special) :
    SpecialRule m s t := by
  obtain ⟨hmpr, hspeed, hblock, hsp, hsel⟩ := State.special_eq_iff.1 h
  exact ⟨fun _ => hmpr, fun _ => hspeed, fun _ => hblock, fun _ => hsp, fun _ => hsel⟩

/-- A stack instruction that keeps every special register but S meets the rule. -/
theorem SpecialRule.of_stack {m : Mnemonic} (hm : spWriters.contains m = true) {s t : State}
    (h : t.special = (s.setSp t.sp).special) : SpecialRule m s t := by
  obtain ⟨hmpr, hspeed, hblock, -, hsel⟩ := State.special_eq_iff.1 h
  exact ⟨fun _ => hmpr, fun _ => hspeed, fun _ => hblock, excepted hm, fun _ => hsel⟩

theorem State.aluT_special (s : State) (op : Byte → Byte → Flags → Byte × Flags) (src : Source) :
    (s.aluT op src).special = s.special := by
  cases ht : s.p.t with
  | false => rw [s.aluT_accumulator op src ht]; rfl
  | true => rw [s.aluT_zeroPage op src ht]; rfl

theorem operandOp_special (m : Mnemonic) (s : State) (b : Byte) :
    (operandOp m s b).special = s.special := by
  cases m <;> rfl

theorem pullOp_special (m : Mnemonic) (s : State) (b : Byte) :
    (pullOp m s b).special = s.special := by
  cases m <;> rfl

/-- Each shape meets the rule of its mnemonics. -/
theorem Executes.specialRule {s t : State} {m : Mnemonic} (h : Executes s m t) :
    SpecialRule m s t := by
  cases m with
  | adc | and | eor | ora =>
    obtain ⟨src, rfl⟩ := h
    exact .of_kept (s.aluT_special _ src)
  | sbc | cmp | cpx | cpy | lda | ldx | ldy | bit =>
    obtain ⟨src, rfl⟩ := h
    rw [s.withOperand_eq]
    exact .of_kept (operandOp_special _ _ _)
  | asl | lsr | rol | ror | inc | dec =>
    obtain ⟨ea, rfl⟩ | rfl := h
    · rw [s.rmw_eq]
      exact .of_kept rfl
    · exact .of_kept rfl
  | trb | tsb | rmb _ | smb _ =>
    obtain ⟨ea, rfl⟩ := h
    rw [s.rmw_eq]
    exact .of_kept rfl
  | sta | stx | sty | stz =>
    obtain ⟨ea, v, rfl⟩ := h
    rw [s.storeTo_eq]
    exact .of_kept rfl
  | tst =>
    obtain ⟨nn, ea, rfl⟩ := h
    rw [s.testImm_eq]
    exact .of_kept rfl
  | inx | iny | dex | dey | cla | clx | cly | clc | cld | cli | clv | sec | sed | sei | setT | sax
  | say | sxy | tax | tay | tsx | txa | tya | nop =>
    obtain rfl : t = _ := h
    exact .of_kept rfl
  | txs =>
    obtain rfl : t = _ := h
    exact .of_stack (by rfl) rfl
  | csh | csl =>
    obtain rfl : t = _ := h
    exact ⟨fun _ => ⟨rfl, rfl⟩, excepted rfl, fun _ => ⟨rfl, rfl, rfl⟩, fun _ => rfl,
      fun _ => rfl⟩
  | bcc | bcs | beq | bmi | bne | bpl | bra | bvc | bvs =>
    obtain ⟨cond, rr, rfl⟩ := h
    rw [s.branchIf_eq]
    exact .of_kept rfl
  | bbr _ | bbs _ =>
    obtain ⟨want, zz, rr, rfl⟩ := h
    rw [s.branchOnBit_eq]
    exact .of_kept rfl
  | st0 | st1 | st2 =>
    obtain ⟨pa, nn, rfl⟩ := h
    rw [s.storeImmediate_eq]
    exact .of_kept rfl
  | pha | php | phx | phy =>
    obtain ⟨v, rfl⟩ := h
    rw [s.pushInstr_eq]
    exact .of_stack (by rfl) rfl
  | pla | plp | plx | ply =>
    obtain rfl : t = _ := h
    rw [s.pullInstr_eq]
    exact .of_stack (by rfl) rfl
  | bsr | jsr =>
    obtain ⟨last, target, rfl⟩ := h
    rw [s.call_eq]
    exact .of_stack (by rfl) rfl
  | rts =>
    obtain rfl : t = _ := h
    rw [s.returnFromSubroutine_eq]
    exact .of_stack (by rfl) rfl
  | rti =>
    obtain rfl : t = _ := h
    rw [s.returnFromInterrupt_eq]
    exact .of_stack (by rfl) rfl
  | jmp =>
    obtain ⟨target, rfl⟩ | ⟨la, rfl⟩ := h
    · exact .of_kept rfl
    · rw [s.jumpIndirect_eq]
      exact .of_kept rfl
  | tii | tdd | tin | tia | tai =>
    obtain ⟨src, dst, ssss, dddd, llll, rfl⟩ := h
    obtain ⟨a, x, y, sh, dh, lh, mem, io, heq⟩ := s.blockTransfer_eq src dst ssss dddd llll
    rw [heq]
    exact ⟨fun _ => ⟨rfl, rfl⟩, fun _ => rfl, excepted rfl, fun _ => rfl, fun _ => rfl⟩
  | tam =>
    obtain ⟨mask, rfl⟩ := h
    exact ⟨fun hn => absurd rfl hn, fun _ => rfl, fun _ => ⟨rfl, rfl, rfl⟩, fun _ => rfl,
      fun _ => rfl⟩
  | tma =>
    obtain ⟨mask, rfl⟩ := h
    exact .of_kept rfl
  | brk =>
    obtain rfl : t = _ := h
    rw [s.clearT.enterInterrupt_eq]
    exact ⟨fun _ => ⟨rfl, rfl⟩, fun _ => rfl, fun _ => ⟨rfl, rfl, rfl⟩, excepted rfl,
      fun hn => absurd rfl hn⟩

/-- Settles O16: every instruction has the shape of its mnemonic, and the shape meets the rule. -/
theorem specialRegisterWriters : Obligations.SpecialRegisterWriters := by
  intro i s t hexec
  exact (executes_of_exec hexec).specialRule

end Sys2Proof.Machine

/-!
O17: who writes the flags. Each shape computes the flags after the instruction from the flags after the fetch,
which cleared T (10_state.md R54); what is left is which flags each operation writes.
-/

namespace Sys2Proof.Machine

/-- The instructions that write C (10_state.md R37). -/
def cWriters : List Mnemonic :=
  [.adc, .sbc, .cmp, .cpx, .cpy, .asl, .lsr, .rol, .ror, .sec, .clc, .plp, .rti]

/-- The instructions that write Z and N (10_state.md R38, R44). -/
def nzWriters : List Mnemonic :=
  [.adc, .and, .asl, .bit, .cmp, .cpx, .cpy, .dec, .dex, .dey, .eor, .inc, .inx, .iny, .lda, .ldx,
    .ldy, .lsr, .ora, .pla, .plx, .ply, .rol, .ror, .sbc, .tax, .tay, .trb, .tsb, .tst, .tsx, .txa,
    .tya, .plp, .rti]

/-- The instructions that write V (10_state.md R43). -/
def vWriters : List Mnemonic := [.adc, .sbc, .clv, .bit, .trb, .tsb, .tst, .plp, .rti]

/-- What O17 says of an instruction with the mnemonic `m` that finds the flags `p` and leaves `q`. -/
def FlagRule (m : Mnemonic) (p q : Flags) : Prop :=
  (m ∉ cWriters → q.c = p.c) ∧
  (m ∉ nzWriters → q.z = p.z ∧ q.n = p.n) ∧
  (m ∉ [Mnemonic.cli, .sei, .plp, .rti, .brk] → q.i = p.i) ∧
  (m ∉ [Mnemonic.cld, .sed, .plp, .rti, .brk] → q.d = p.d) ∧
  (m ∉ vWriters → q.v = p.v) ∧
  (m = .adc ∨ m = .sbc → p.d = true → q.v = p.v) ∧
  (m ∉ [Mnemonic.setT, .plp, .rti] → q.t = false) ∧
  (m = .setT → q.t = true)

variable {m : Mnemonic} {p : Flags}

/-- Nothing written but the T that the fetch cleared. -/
theorem FlagRule.of_fetched (hset : m ≠ .setT) : FlagRule m p p.fetched :=
  ⟨fun _ => rfl, fun _ => ⟨rfl, rfl⟩, fun _ => rfl, fun _ => rfl, fun _ => rfl, fun _ _ => rfl,
    fun _ => rfl, fun h => absurd h hset⟩

theorem ne_setT_of_nzWriter (h : nzWriters.contains m = true) : m ≠ .setT := by
  rintro rfl
  cases h

/-- N and Z written. -/
theorem FlagRule.of_nz (hnz : nzWriters.contains m = true) (n z : Bool) :
    FlagRule m p { p with t := false, n := n, z := z } :=
  ⟨fun _ => rfl, excepted hnz, fun _ => rfl, fun _ => rfl, fun _ => rfl, fun _ _ => rfl,
    fun _ => rfl, fun h => absurd h (ne_setT_of_nzWriter hnz)⟩

/-- N, Z and C written. -/
theorem FlagRule.of_nzc (hc : cWriters.contains m = true) (hnz : nzWriters.contains m = true)
    (n z c : Bool) : FlagRule m p { p with t := false, n := n, z := z, c := c } :=
  ⟨excepted hc, (FlagRule.of_nz hnz n z).2⟩

/-- N, V and Z written from a byte that is tested. -/
theorem FlagRule.of_tested (hm : m = .bit ∨ m = .trb ∨ m = .tsb ∨ m = .tst) (n v z : Bool) :
    FlagRule m p { p with t := false, n := n, v := v, z := z } := by
  obtain rfl | rfl | rfl | rfl := hm
  all_goals
    exact ⟨fun _ => rfl, excepted rfl, fun _ => rfl, fun _ => rfl, excepted rfl, nofun,
      fun _ => rfl, nofun⟩

/-- Every flag written from a pulled byte: PLP and RTI are under every exception of the rule. -/
theorem FlagRule.of_pulled (h : m = .plp ∨ m = .rti) (q : Flags) : FlagRule m p q := by
  obtain rfl | rfl := h
  all_goals
    exact ⟨excepted rfl, excepted rfl, excepted rfl, excepted rfl, excepted rfl, nofun,
      excepted rfl, nofun⟩

/-! ADC and SBC (40_alu_arith_logic.md R202 to R205). -/

/-- ADC's operation writes N, V, Z and C, and V not in decimal mode. -/
theorem adcOp_flags (l r : Byte) (p : Flags) :
    ∃ n v z c, (adcOp l r p).2 = { p with n := n, v := v, z := z, c := c } ∧
      (p.d = true → v = p.v) := by
  delta adcOp
  by_cases hd : p.d = true
  · rw [if_pos hd]
    delta addDec
    split
    · exact ⟨_, p.v, _, _, rfl, fun _ => rfl⟩
    · exact ⟨_, p.v, _, _, rfl, fun _ => rfl⟩
  · rw [if_neg hd]
    exact ⟨_, _, _, _, rfl, fun h => absurd h hd⟩

/-- SBC's operation writes the same flags. -/
theorem sbcOp_flags (l r : Byte) (p : Flags) :
    ∃ n v z c, (sbcOp l r p).2 = { p with n := n, v := v, z := z, c := c } ∧
      (p.d = true → v = p.v) := by
  delta sbcOp
  by_cases hd : p.d = true
  · rw [if_pos hd]
    delta subDec
    split
    · exact ⟨_, p.v, _, _, rfl, fun _ => rfl⟩
    · exact ⟨_, p.v, _, _, rfl, fun _ => rfl⟩
  · rw [if_neg hd]
    exact ⟨_, _, _, _, rfl, fun h => absurd h hd⟩

/-- N, V, Z and C written, V not in decimal mode: ADC and SBC. -/
theorem FlagRule.of_arith (hm : m = .adc ∨ m = .sbc) {q : Flags}
    (h : ∃ n v z c, q = { p with t := false, n := n, v := v, z := z, c := c } ∧
      (p.d = true → v = p.v)) : FlagRule m p q := by
  obtain ⟨n, v, z, c, rfl, hdec⟩ := h
  obtain rfl | rfl := hm
  all_goals
    exact ⟨excepted rfl, excepted rfl, fun _ => rfl, fun _ => rfl, excepted rfl, fun _ => hdec,
      fun _ => rfl, nofun⟩

/-! The shapes. -/

/-- ADC, AND, EOR and ORA compute the flags from those after the fetch, whatever t_in. -/
theorem FlagRule.of_aluT {s : State} {op : Byte → Byte → Flags → Byte × Flags}
    (h : ∀ l r, FlagRule m s.p (op l r s.p.fetched).2) (src : Source) :
    FlagRule m s.p (s.aluT op src).p := by
  cases ht : s.p.t with
  | false => rw [s.aluT_accumulator op src ht]; exact h _ _
  | true => rw [s.aluT_zeroPage op src ht]; exact h _ _

/-- Each shape meets the rule of its mnemonics. -/
theorem Executes.flagRule {s t : State} (h : Executes s m t) : FlagRule m s.p t.p := by
  cases m with
  | adc =>
    obtain ⟨src, rfl⟩ := h
    exact .of_aluT (fun l r => .of_arith (.inl rfl) (adcOp_flags l r s.p.fetched)) src
  | and | eor | ora =>
    obtain ⟨src, rfl⟩ := h
    exact .of_aluT (fun l r => .of_nz (by rfl) _ _) src
  | sbc =>
    obtain ⟨src, rfl⟩ := h
    rw [s.withOperand_eq]
    exact .of_arith (.inr rfl) (sbcOp_flags _ _ s.p.fetched)
  | cmp | cpx | cpy =>
    obtain ⟨src, rfl⟩ := h
    rw [s.withOperand_eq]
    exact .of_nzc (by rfl) (by rfl) _ _ _
  | lda | ldx | ldy =>
    obtain ⟨src, rfl⟩ := h
    rw [s.withOperand_eq]
    exact .of_nz (by rfl) _ _
  | bit =>
    obtain ⟨src, rfl⟩ := h
    rw [s.withOperand_eq]
    exact .of_tested (by simp) _ _ _
  | asl | lsr | rol | ror =>
    obtain ⟨ea, rfl⟩ | rfl := h
    · rw [s.rmw_eq]
      exact .of_nzc (by rfl) (by rfl) _ _ _
    · exact .of_nzc (by rfl) (by rfl) _ _ _
  | inc | dec =>
    obtain ⟨ea, rfl⟩ | rfl := h
    · rw [s.rmw_eq]
      exact .of_nz (by rfl) _ _
    · exact .of_nz (by rfl) _ _
  | trb | tsb =>
    obtain ⟨ea, rfl⟩ := h
    rw [s.rmw_eq]
    exact .of_tested (by simp) _ _ _
  | rmb _ | smb _ =>
    obtain ⟨ea, rfl⟩ := h
    rw [s.rmw_eq]
    exact .of_fetched nofun
  | sta | stx | sty | stz =>
    obtain ⟨ea, v, rfl⟩ := h
    rw [s.storeTo_eq]
    exact .of_fetched nofun
  | tst =>
    obtain ⟨nn, ea, rfl⟩ := h
    rw [s.testImm_eq]
    exact .of_tested (by simp) _ _ _
  | inx | iny | dex | dey | tax | tay | tsx | txa | tya =>
    obtain rfl : t = _ := h
    exact .of_nz (by rfl) _ _
  | clc | sec =>
    obtain rfl : t = _ := h
    exact ⟨excepted rfl, fun _ => ⟨rfl, rfl⟩, fun _ => rfl, fun _ => rfl,
      fun _ => rfl, fun _ _ => rfl, fun _ => rfl, nofun⟩
  | cld | sed =>
    obtain rfl : t = _ := h
    exact ⟨fun _ => rfl, fun _ => ⟨rfl, rfl⟩, fun _ => rfl, excepted rfl,
      fun _ => rfl, fun _ _ => rfl, fun _ => rfl, nofun⟩
  | cli | sei =>
    obtain rfl : t = _ := h
    exact ⟨fun _ => rfl, fun _ => ⟨rfl, rfl⟩, excepted rfl, fun _ => rfl,
      fun _ => rfl, fun _ _ => rfl, fun _ => rfl, nofun⟩
  | clv =>
    obtain rfl : t = _ := h
    exact ⟨fun _ => rfl, fun _ => ⟨rfl, rfl⟩, fun _ => rfl, fun _ => rfl, excepted rfl,
      nofun, fun _ => rfl, nofun⟩
  | setT =>
    obtain rfl : t = _ := h
    exact ⟨fun _ => rfl, fun _ => ⟨rfl, rfl⟩, fun _ => rfl, fun _ => rfl, fun _ => rfl,
      fun _ _ => rfl, excepted rfl, fun _ => rfl⟩
  | cla | clx | cly | sax | say | sxy | txs | nop | csh | csl =>
    obtain rfl : t = _ := h
    exact .of_fetched nofun
  | bcc | bcs | beq | bmi | bne | bpl | bra | bvc | bvs =>
    obtain ⟨cond, rr, rfl⟩ := h
    rw [s.branchIf_eq]
    exact .of_fetched nofun
  | bbr _ | bbs _ =>
    obtain ⟨want, zz, rr, rfl⟩ := h
    rw [s.branchOnBit_eq]
    exact .of_fetched nofun
  | st0 | st1 | st2 =>
    obtain ⟨pa, nn, rfl⟩ := h
    rw [s.storeImmediate_eq]
    exact .of_fetched nofun
  | pha | php | phx | phy =>
    obtain ⟨v, rfl⟩ := h
    rw [s.pushInstr_eq]
    exact .of_fetched nofun
  | pla | plx | ply =>
    obtain rfl : t = _ := h
    rw [s.pullInstr_eq]
    exact .of_nz (by rfl) _ _
  | plp => exact .of_pulled (.inl rfl) _
  | rti => exact .of_pulled (.inr rfl) _
  | bsr | jsr =>
    obtain ⟨last, target, rfl⟩ := h
    rw [s.call_eq]
    exact .of_fetched nofun
  | rts =>
    obtain rfl : t = _ := h
    rw [s.returnFromSubroutine_eq]
    exact .of_fetched nofun
  | jmp =>
    obtain ⟨target, rfl⟩ | ⟨la, rfl⟩ := h
    · exact .of_fetched nofun
    · rw [s.jumpIndirect_eq]
      exact .of_fetched nofun
  | tii | tdd | tin | tia | tai =>
    obtain ⟨src, dst, ssss, dddd, llll, rfl⟩ := h
    obtain ⟨a, x, y, sh, dh, lh, mem, io, heq⟩ := s.blockTransfer_eq src dst ssss dddd llll
    rw [heq]
    exact .of_fetched nofun
  | tam | tma =>
    obtain ⟨mask, rfl⟩ := h
    exact .of_fetched nofun
  | brk =>
    obtain rfl : t = _ := h
    rw [s.clearT.enterInterrupt_eq]
    exact ⟨fun _ => rfl, fun _ => ⟨rfl, rfl⟩, excepted rfl, excepted rfl, fun _ => rfl, nofun,
      fun _ => rfl, nofun⟩

/-- Settles O17: every instruction has the shape of its mnemonic, and the shape meets the rule. -/
theorem flagWriters : Obligations.FlagWriters := by
  intro i s t hexec
  exact (executes_of_exec hexec).flagRule

end Sys2Proof.Machine

/-!
O15: writes reach RAM alone (20_memory.md R103). Every store is a `State.memWrite` or a `State.physWrite`, which
changes a byte only where RAM answers; what a step does besides leaves memory and the platform alone.
-/

namespace Sys2Proof.Machine

/-- From `s` to `t` the platform stays and no byte is written where RAM does not answer. -/
structure WritesRamOnly (s t : State) : Prop where
  platform : t.platform = s.platform
  kept : ∀ q : PhysAddr, s.isRam q = false → t.peek q = s.peek q

/-- Memory and the platform as they were. -/
theorem WritesRamOnly.of_same {s t : State} (hplat : t.platform = s.platform)
    (hmem : t.mem = s.mem) : WritesRamOnly s t :=
  ⟨hplat, fun q _ => State.peek_congr hmem q⟩

theorem WritesRamOnly.trans {s t u : State} (h1 : WritesRamOnly s t) (h2 : WritesRamOnly t u) :
    WritesRamOnly s u :=
  ⟨h2.platform.trans h1.platform, fun q hq =>
    (h2.kept q ((State.isRam_congr h1.platform q).trans hq)).trans (h1.kept q hq)⟩

/-- A change of the registers and of block $FF after the writes. -/
theorem WritesRamOnly.then_same {s t u : State} (h : WritesRamOnly s t)
    (hplat : u.platform = s.platform) (hmem : u.mem = t.mem) : WritesRamOnly s u :=
  h.trans (.of_same (hplat.trans h.platform.symm) hmem)

theorem State.clearT_writesRamOnly (s : State) : WritesRamOnly s s.clearT := .of_same rfl rfl

theorem State.clearNmi_writesRamOnly (s : State) : WritesRamOnly s s.clearNmi := .of_same rfl rfl

theorem State.loadBlockRegs_writesRamOnly (s : State) (a b c : Word) :
    WritesRamOnly s (s.loadBlockRegs a b c) := .of_same rfl rfl

/-- A read, of whatever kind, changes block $FF only. -/
theorem WritesRamOnly.of_read {s t : State} (h : t = { s with io := t.io }) : WritesRamOnly s t := by
  rw [h]
  exact .of_same rfl rfl

theorem State.physWrite_writesRamOnly (s : State) (pa : PhysAddr) (v : Byte) :
    WritesRamOnly s (s.physWrite pa v) := by
  refine ⟨s.physWrite_platform pa v, fun q hq => ?_⟩
  by_cases hqpa : q = pa
  · exact State.peek_congr (s.physWrite_mem_of_not_ram v (hqpa ▸ hq)) q
  · exact s.peek_physWrite_ne v hqpa

theorem State.memWrite_writesRamOnly (s : State) (la : Word) (v : Byte) :
    WritesRamOnly s (s.memWrite la v) :=
  s.physWrite_writesRamOnly _ v

/-- Reads, then one write. -/
theorem WritesRamOnly.of_read_write {s t : State} (h : t = { s with io := t.io }) (la : Word)
    (v : Byte) : WritesRamOnly s (t.memWrite la v) :=
  (of_read h).trans (t.memWrite_writesRamOnly la v)

theorem State.push_writesRamOnly (s : State) (v : Byte) : WritesRamOnly s (s.push v) :=
  (s.memWrite_writesRamOnly _ v).then_same (s.push_platform v) (s.push_mem v)

theorem State.enterInterrupt_writesRamOnly (s : State) (vector ret : Word) (b : Bool) :
    WritesRamOnly s (s.enterInterrupt vector b ret) := by
  rw [s.enterInterrupt_eq]
  exact (((s.memWrite_writesRamOnly _ _).trans (State.memWrite_writesRamOnly _ _ _)).trans
    (State.memWrite_writesRamOnly _ _ _)).then_same rfl rfl

theorem State.enterHardware_writesRamOnly (s : State) (sel : IntSel) :
    WritesRamOnly s (s.enterHardware sel) := by
  cases sel with
  | none => exact .of_same rfl rfl
  | nmi =>
    exact s.clearNmi_writesRamOnly.trans (s.clearNmi.enterInterrupt_writesRamOnly _ _ _)
  | timer => exact s.enterInterrupt_writesRamOnly _ _ _
  | irq1 => exact s.enterInterrupt_writesRamOnly _ _ _
  | irq2 => exact s.enterInterrupt_writesRamOnly _ _ _

/-- The bytes of a block transfer, by induction on how many are left. -/
theorem State.blockLoop_writesRamOnly (src dst : Motion) (n : Nat) (s : State) (a b c : Word)
    (alt : Bool) : WritesRamOnly s (State.blockLoop src dst n s a b c alt) := by
  induction n generalizing s a b c alt with
  | zero => exact .of_same rfl rfl
  | succ n ih =>
    have hbyte := WritesRamOnly.of_read_write (s.memRead_eq (motionAddr src a alt))
      (motionAddr dst b alt) (s.memRead (motionAddr src a alt)).1
    exact (hbyte.trans (State.loadBlockRegs_writesRamOnly _ (motionNext src a) (motionNext dst b)
      (c - 1))).trans (ih _ _ _ _ _)

theorem State.blockTransfer_writesRamOnly (s : State) (src dst : Motion) (ssss dddd llll : Word) :
    WritesRamOnly s (s.blockTransfer src dst ssss dddd llll) := by
  let pushed := ((s.clearT.push s.y).push s.a).push s.x
  let moved := State.blockLoop src dst (blockCount llll) (pushed.loadBlockRegs ssss dddd llll) ssss
    dddd llll false
  have hpushed : WritesRamOnly s pushed :=
    ((s.clearT_writesRamOnly.trans (State.push_writesRamOnly _ _)).trans
      (State.push_writesRamOnly _ _)).trans (State.push_writesRamOnly _ _)
  have hmoved : WritesRamOnly s moved :=
    (hpushed.trans (pushed.loadBlockRegs_writesRamOnly _ _ _)).trans
      (State.blockLoop_writesRamOnly _ _ _ _ _ _ _ _)
  refine hmoved.trans (.of_same ?_ ?_)
  · exact (State.pull_platform _).trans ((State.pull_platform _).trans (State.pull_platform _))
  · exact (State.pull_mem _).trans ((State.pull_mem _).trans (State.pull_mem _))

theorem State.aluT_writesRamOnly (s : State) (op : Byte → Byte → Flags → Byte × Flags)
    (src : Source) : WritesRamOnly s (s.aluT op src) := by
  cases ht : s.p.t with
  | false => rw [s.aluT_accumulator op src ht]; exact .of_same rfl rfl
  | true =>
    rw [s.aluT_zeroPage op src ht]
    exact (WritesRamOnly.of_read_write (State.io_trans (s.operand_eq src) (State.memRead_eq _ _))
      _ _).then_same rfl rfl

theorem State.rmw_writesRamOnly (s : State) (op : Byte → Flags → Byte × Flags) (ea : Ea) :
    WritesRamOnly s (s.rmw op ea) := by
  rw [s.rmw_eq]
  exact (WritesRamOnly.of_read_write (State.io_trans (s.effAddr_eq ea) (State.memRead_eq _ _))
    _ _).then_same rfl rfl

theorem operandOp_platform (m : Mnemonic) (s : State) (b : Byte) :
    (operandOp m s b).platform = s.platform := by
  cases m <;> rfl

theorem impliedOp_platform (m : Mnemonic) (s : State) : (impliedOp m s).platform = s.platform := by
  cases m <;> rfl

theorem pullOp_platform (m : Mnemonic) (s : State) (b : Byte) :
    (pullOp m s b).platform = s.platform := by
  cases m <;> rfl

/-- No instruction writes a byte where RAM does not answer. -/
theorem Executes.writesRamOnly {s t : State} {m : Mnemonic} (h : Executes s m t) :
    WritesRamOnly s t := by
  cases m with
  | adc | and | eor | ora =>
    obtain ⟨src, rfl⟩ := h
    exact s.aluT_writesRamOnly _ src
  | sbc | cmp | cpx | cpy | lda | ldx | ldy | bit =>
    obtain ⟨src, rfl⟩ := h
    rw [s.withOperand_eq]
    exact .of_same (operandOp_platform _ _ _) (operandOp_mem _ _ _)
  | asl | lsr | rol | ror | inc | dec =>
    obtain ⟨ea, rfl⟩ | rfl := h
    · exact s.rmw_writesRamOnly _ ea
    · exact .of_same rfl rfl
  | trb | tsb | rmb _ | smb _ =>
    obtain ⟨ea, rfl⟩ := h
    exact s.rmw_writesRamOnly _ ea
  | sta | stx | sty | stz =>
    obtain ⟨ea, v, rfl⟩ := h
    rw [s.storeTo_eq]
    exact (WritesRamOnly.of_read_write (s.effAddr_eq ea) _ v).then_same rfl rfl
  | tst =>
    obtain ⟨nn, ea, rfl⟩ := h
    rw [s.testImm_eq]
    exact .of_same rfl rfl
  | inx | iny | dex | dey | cla | clx | cly | clc | cld | cli | clv | sec | sed | sei | setT | sax
  | say | sxy | tax | tay | tsx | txa | txs | tya | nop | csh | csl =>
    obtain rfl : t = _ := h
    exact .of_same (impliedOp_platform _ s.clearT) (impliedOp_mem _ s.clearT)
  | bcc | bcs | beq | bmi | bne | bpl | bra | bvc | bvs =>
    obtain ⟨cond, rr, rfl⟩ := h
    rw [s.branchIf_eq]
    exact .of_same rfl rfl
  | bbr _ | bbs _ =>
    obtain ⟨want, zz, rr, rfl⟩ := h
    rw [s.branchOnBit_eq]
    exact .of_same rfl rfl
  | st0 | st1 | st2 =>
    obtain ⟨pa, nn, rfl⟩ := h
    rw [s.storeImmediate_eq]
    exact (s.physWrite_writesRamOnly pa nn).then_same rfl rfl
  | pha | php | phx | phy =>
    obtain ⟨v, rfl⟩ := h
    rw [s.pushInstr_eq]
    exact (s.memWrite_writesRamOnly _ _).then_same rfl rfl
  | pla | plp | plx | ply =>
    obtain rfl : t = _ := h
    rw [s.pullInstr_eq]
    exact .of_same (pullOp_platform _ _ _) (pullOp_mem _ _ _)
  | bsr | jsr =>
    obtain ⟨last, target, rfl⟩ := h
    rw [s.call_eq]
    exact ((s.memWrite_writesRamOnly _ _).trans (State.memWrite_writesRamOnly _ _ _)).then_same
      rfl rfl
  | rts =>
    obtain rfl : t = _ := h
    rw [s.returnFromSubroutine_eq]
    exact .of_same rfl rfl
  | rti =>
    obtain rfl : t = _ := h
    rw [s.returnFromInterrupt_eq]
    exact .of_same rfl rfl
  | jmp =>
    obtain ⟨target, rfl⟩ | ⟨la, rfl⟩ := h
    · exact .of_same rfl rfl
    · rw [s.jumpIndirect_eq]
      exact .of_same rfl rfl
  | tii | tdd | tin | tia | tai =>
    obtain ⟨src, dst, ssss, dddd, llll, rfl⟩ := h
    exact s.blockTransfer_writesRamOnly src dst ssss dddd llll
  | tam | tma =>
    obtain ⟨mask, rfl⟩ := h
    exact .of_same rfl rfl
  | brk =>
    obtain rfl : t = _ := h
    exact s.clearT_writesRamOnly.trans (s.clearT.enterInterrupt_writesRamOnly _ _ _)

theorem State.systemReset_writesRamOnly (s : State) : WritesRamOnly s s.systemReset := by
  obtain ⟨pc, io, heq⟩ := s.systemReset_eq
  rw [heq]
  exact .of_same rfl rfl

/-- Settles O15: each of the three kinds of step is made of operations that write RAM only. -/
theorem stepWritesRamOnly : Obligations.StepWritesRamOnly := by
  intro s t hstep
  have helapse : WritesRamOnly s s.elapse := .of_same rfl rfl
  have hwrites : WritesRamOnly s t := by
    obtain ⟨-, rfl⟩ | ⟨-, rfl⟩ | ⟨i, u, hexec, rfl⟩ := step_cases hstep
    · exact helapse.trans s.elapse.systemReset_writesRamOnly
    · have hentry := helapse.trans (s.elapse.enterHardware_writesRamOnly s.intSel)
      exact hentry.then_same hentry.platform rfl
    · have hinstr := (helapse.trans (.of_read s.elapse.fetch_eq)).trans
        (executes_of_exec hexec).writesRamOnly
      exact hinstr.then_same hinstr.platform rfl
  exact ⟨hwrites.platform, hwrites.kept⟩

end Sys2Proof.Machine

/-!
O28: translation (20_memory.md R101, R106, R107).
-/

namespace Sys2Proof.Machine

/-- `translate` as a number: the byte of the selected mapping register above thirteen bits of offset
(20_memory.md R101). -/
theorem State.translate_toNat (s : State) (la : Word) :
    (s.translate la).toNat =
      (s.mpr.get (la.extractLsb' 13 3).toFin).toNat * 0x2000 + la.toNat % 0x2000 := by
  delta State.translate
  rw [BitVec.toNat_append, ← Nat.shiftLeft_add_eq_or_of_lt (BitVec.isLt _), Nat.shiftLeft_eq,
    BitVec.extractLsb'_toNat]
  rfl

/-- The three high bits of a logical address, as the number of its mapping register. -/
theorem mprIndex_eq (la : Word) (i : Fin 8) (h : la.toNat / 0x2000 = i.val) :
    (la.extractLsb' 13 3).toFin = i := by
  have hi := i.isLt
  refine Fin.ext ?_
  rw [BitVec.val_toFin, BitVec.extractLsb'_toNat, Nat.shiftRight_eq_div_pow]
  omega

/-- A logical address in the eighth of the logical space that one mapping register maps. -/
theorem State.translate_of_index (s : State) (la : Word) (i : Fin 8) (h : la.toNat / 0x2000 = i.val) :
    (s.translate la).toNat = (s.mpr.get i).toNat * 0x2000 + la.toNat % 0x2000 := by
  rw [s.translate_toNat, mprIndex_eq la i h]

theorem zpAddr_toNat (zz : Byte) : (zpAddr zz).toNat = 0x2000 + zz.toNat :=
  joinBytes_toNat 0x20#8 zz

theorem stackAddr_toNat (sp : Byte) : (stackAddr sp).toNat = 0x2100 + sp.toNat :=
  joinBytes_toNat 0x21#8 sp

/-- The zero page is mapped by MPR1 (R106). -/
theorem State.translate_zpAddr (s : State) (zz : Byte) :
    (s.translate (zpAddr zz)).toNat = s.mpr.m1.toNat * 0x2000 + zz.toNat := by
  have haddr := zpAddr_toNat zz
  have hpage := s.translate_of_index (zpAddr zz) 1 (by simp only [Fin.val_one]; omega)
  rw [hpage, haddr]
  show s.mpr.m1.toNat * 0x2000 + _ = _
  omega

/-- The stack is mapped by MPR1 (R107). -/
theorem State.translate_stackAddr (s : State) (sp : Byte) :
    (s.translate (stackAddr sp)).toNat = s.mpr.m1.toNat * 0x2000 + 0x100 + sp.toNat := by
  have haddr := stackAddr_toNat sp
  have hpage := s.translate_of_index (stackAddr sp) 1 (by simp only [Fin.val_one]; omega)
  rw [hpage, haddr]
  show s.mpr.m1.toNat * 0x2000 + _ = _
  omega

/-- Settles O28: one lemma for the eight mapping registers, and the two pages that MPR1 maps. -/
theorem translation : Obligations.Translation := by
  intro s la b
  have hpage := s.translate_of_index la
  exact ⟨hpage 0, hpage 1, hpage 2, hpage 3, hpage 4, hpage 5, hpage 6, hpage 7, zpAddr_toNat b,
    stackAddr_toNat b, s.translate_zpAddr b, s.translate_stackAddr b⟩

end Sys2Proof.Machine

/-!
O27 and O56: block $FF (20_memory.md R104, R111). Every address of it selects an on-chip register or a unit
whose accesses are recorded; an access does what its target does, after the environment has acted.
-/

namespace Sys2Proof.Machine

/-- The targets that answer for units whose behaviour the spec does not give, whichever the access. -/
def BusTarget.recorded : BusTarget → Bool
  | .huc6270 | .huc6260 | .psg | .undecoded => true
  | _ => false

/-- The on-chip registers that can be read (20_memory.md R111). -/
def BusTarget.readable : BusTarget → Bool
  | .timerCounter | .port | .idr | .irr => true
  | _ => false

/-- The addresses of the HuC6270, the HuC6260, the PSG and those no source decodes (R104). -/
theorem busTarget_recorded {pa : PhysAddr} (hff : 0x1FE000 ≤ pa.toNat)
    (h : pa.toNat < 0x1FEC00 ∨ 0x1FF800 ≤ pa.toNat ∨ (0x1FF400 ≤ pa.toNat ∧ pa.toNat % 4 < 2)) :
    (busTarget pa).recorded = true := by
  delta busTarget blockFFBase
  dsimp only
  split_ifs
  any_goals rfl
  all_goals omega

/-- The odd addresses of the timer (60_exceptions.md R533). -/
theorem busTarget_timerControl {pa : PhysAddr} (hlo : 0x1FEC00 ≤ pa.toNat)
    (hhi : pa.toNat < 0x1FF000) (hodd : pa.toNat % 2 = 1) : busTarget pa = .timerControl := by
  delta busTarget blockFFBase
  dsimp only
  split_ifs
  any_goals rfl
  all_goals omega

/-- The addresses of the on-chip registers that can be read. -/
theorem busTarget_readable {pa : PhysAddr} (hlo : 0x1FEC00 ≤ pa.toNat) (hhi : pa.toNat < 0x1FF800)
    (htimer : pa.toNat < 0x1FF000 → pa.toNat % 2 = 0)
    (hirq : 0x1FF400 ≤ pa.toNat → 2 ≤ pa.toNat % 4) : (busTarget pa).readable = true := by
  delta busTarget blockFFBase
  dsimp only
  split_ifs
  any_goals rfl
  all_goals omega

/-- A read of an on-chip register draws free values at most. -/
theorem State.physRead_readable (s : State) {pa : PhysAddr}
    (h : (busTarget pa).readable = true) :
    ∃ n, (s.physRead pa).2 = { s with io := { s.io.elapse with freeCount := n } } := by
  delta State.physRead
  generalize busTarget pa = target at h
  cases target with
  | timerCounter | port | idr | irr => exact ⟨_, rfl⟩
  | external | huc6270 | huc6260 | psg | timerControl | undecoded => cases h

/-- A read of a unit whose behaviour the spec does not give, and of the timer's control register, is
recorded. -/
theorem State.physRead_recorded (s : State) {pa : PhysAddr}
    (h : (busTarget pa).recorded = true ∨ busTarget pa = .timerControl) :
    (s.physRead pa).2 = { s with
      io := { s.io.elapse with deviceLog := .read pa :: s.io.elapse.deviceLog } } := by
  delta State.physRead
  generalize busTarget pa = target at h
  cases target with
  | huc6270 | huc6260 | psg | timerControl | undecoded => rfl
  | external | timerCounter | port | idr | irr => simp [BusTarget.recorded] at h

/-- A write to such a unit is recorded. -/
theorem State.physWrite_recorded (s : State) {pa : PhysAddr} (v : Byte)
    (h : (busTarget pa).recorded = true) :
    s.physWrite pa v = { s with
      io := { s.io.elapse with deviceLog := .write pa v :: s.io.elapse.deviceLog } } := by
  delta State.physWrite
  generalize busTarget pa = target at h
  cases target with
  | huc6270 | huc6260 | psg | undecoded => rfl
  | external | timerCounter | timerControl | port | idr | irr => cases h

/-- Settles O27: each clause names the targets its addresses select, and the access follows its target. -/
theorem blockFFSideEffects : Obligations.BlockFFSideEffects := by
  intro s pa v hff
  refine ⟨fun hlo hhi htimer hirq => ?_, fun haddr => ?_, fun haddr => ?_⟩
  · exact s.physRead_readable (busTarget_readable hlo hhi htimer hirq)
  · refine s.physRead_recorded ?_
    by_cases htimer : 0x1FEC00 ≤ pa.toNat ∧ pa.toNat < 0x1FF000
    · obtain ⟨hlo, hhi⟩ := htimer
      exact .inr (busTarget_timerControl hlo hhi (by omega))
    · exact .inl (busTarget_recorded hff (by omega))
  · exact s.physWrite_recorded v (busTarget_recorded hff haddr)

/-- ST0, ST1 and ST2 at an address of the HuC6270 (43_data_transfer.md R316 to R318). -/
theorem State.storeImmediate_huc6270 (s : State) {pa : PhysAddr} (nn : Byte)
    (h : busTarget pa = .huc6270) : s.storeImmediate pa nn = { s with
      p := { s.p with t := false }, pc := s.pc + 2
      io := { s.io.elapse with deviceLog := .write pa nn :: s.io.elapse.deviceLog } } := by
  rw [s.storeImmediate_eq, s.physWrite_recorded nn (by rw [h]; rfl)]

/-- Settles O56: the three addresses are the HuC6270's, whatever the mapping registers hold. -/
theorem immediateStoreResult : Obligations.ImmediateStoreResult := by
  intro s nn sent
  have hstore : ∀ pa, busTarget pa = .huc6270 → (.next (s.storeImmediate pa nn) : Result) =
      .next (sent pa) := fun pa h => congrArg _ (s.storeImmediate_huc6270 nn h)
  exact ⟨hstore 0x1FE000#21 (by decide), hstore 0x1FE002#21 (by decide),
    hstore 0x1FE003#21 (by decide), fun _ _ => rfl⟩

end Sys2Proof.Machine

/-!
O30: memory (20_memory.md R103, R113). A read of RAM or ROM is a `State.peek`, so what it answers after a write
is what the laws of `State.peek` say.
-/

namespace Sys2Proof.Machine

/-- A read of RAM or ROM after a write answers what memory then holds there. -/
theorem State.memRead_after_memWrite (s : State) (la lb : Word) (v : Byte)
    (h : s.isMemory (s.translate lb) = true) :
    ((s.memWrite la v).memRead lb).1 = (s.memWrite la v).peek (s.translate lb) := by
  have htranslate := State.translate_congr (s.memWrite_mpr la v) lb
  have hmemory : (s.memWrite la v).isMemory ((s.memWrite la v).translate lb) = true := by
    rw [htranslate, State.isMemory_congr (s.memWrite_platform la v)]
    exact h
  rw [State.memRead_memory _ lb hmemory, htranslate]

/-- A write to ROM: the environment acts and nothing else happens (R103). -/
theorem State.physWrite_rom (s : State) {pa : PhysAddr} (v : Byte) (hmemory : s.isMemory pa = true)
    (hram : s.isRam pa = false) : s.physWrite pa v = s.elapse := by
  obtain ⟨hlt, hdevice⟩ := (s.isMemory_iff pa).1 hmemory
  have hram' : busKind s.platform pa.toNat ≠ .ram := fun hk => by
    rw [(s.isRam_iff pa).2 ⟨hlt, hk⟩] at hram
    cases hram
  delta State.physWrite
  rw [busTarget_external hlt]
  delta State.writeTarget State.writeExternal
  dsimp only
  rw [State.elapse_platform]
  cases hk : busKind s.platform pa.toNat with
  | ram => exact absurd hk hram'
  | rom => rfl
  | device => exact absurd hk hdevice

/-- Settles O30: the byte at the written address, the bytes at the others, and ROM. -/
theorem readAfterWrite : Obligations.ReadAfterWrite := by
  intro s la lb v hwf
  refine ⟨fun hram halias => ?_, fun hmemory hne => ?_, fun hmemory hrom => ?_⟩
  · rw [s.memRead_after_memWrite la lb v (halias ▸ State.isMemory_of_isRam hram), halias]
    exact s.peek_memWrite_self hwf v hram
  · rw [s.memRead_after_memWrite la lb v hmemory, s.memRead_memory lb hmemory]
    exact s.peek_memWrite_ne v hne
  · exact s.physWrite_rom v hmemory hrom

end Sys2Proof.Machine

/-!
O19: the entry of a hardware interrupt (60_exceptions.md R510, R520). The state it leads to is `State.entered`,
and the three bytes it pushes are three writes at stack slots that differ.
-/

namespace Sys2Proof.Machine

/-! Pushed bytes. -/

theorem State.stackSlot_toNat (s : State) (k : Byte) :
    (s.stackSlot k).toNat = s.mpr.m1.toNat * 0x2000 + 0x100 + (s.sp - k).toNat :=
  s.translate_stackAddr _

/-- The stack has 256 slots: two that share a physical address are one (20_memory.md R107). -/
theorem State.stackSlot_inj {s : State} {j k : Byte} (h : s.stackSlot j = s.stackSlot k) : j = k := by
  have hnat := congrArg BitVec.toNat h
  rw [s.stackSlot_toNat, s.stackSlot_toNat] at hnat
  have hsub : s.sp - j = s.sp - k := BitVec.eq_of_toNat_eq (by omega)
  bv_omega

theorem State.stackSlot_ne {s : State} {j k : Nat} (hj : j < 256) (hk : k < 256) (h : j ≠ k) :
    s.stackSlot (BitVec.ofNat 8 j) ≠ s.stackSlot (BitVec.ofNat 8 k) := by
  intro hslot
  have hnat := congrArg BitVec.toNat (State.stackSlot_inj hslot)
  rw [BitVec.toNat_ofNat, BitVec.toNat_ofNat] at hnat
  omega

theorem PushedBytes.nil {s : State} : PushedBytes s s [] :=
  ⟨fun _ _ => rfl, fun _ _ hk => absurd hk (Nat.not_lt_zero _)⟩

/-- One byte more is pushed: a write at the next slot down, which is none of the slots before it. -/
theorem PushedBytes.concat {s t : State} {bytes : List Byte} (h : PushedBytes s t bytes)
    (hlen : bytes.length < 256) (hmpr : t.mpr = s.mpr) (hplat : t.platform = s.platform)
    (hwf : s.mem.wf = true → t.mem.wf = true) (v : Byte) :
    PushedBytes s (t.memWrite (stackAddr (s.sp - BitVec.ofNat 8 bytes.length)) v)
      (bytes ++ [v]) := by
  obtain ⟨hframe, hpushed⟩ := h
  have hslot : t.translate (stackAddr (s.sp - BitVec.ofNat 8 bytes.length)) =
      s.stackSlot (BitVec.ofNat 8 bytes.length) := State.translate_congr hmpr _
  have hother : ∀ {q}, q ≠ s.stackSlot (BitVec.ofNat 8 bytes.length) →
      (t.memWrite (stackAddr (s.sp - BitVec.ofNat 8 bytes.length)) v).peek q = t.peek q :=
    fun hq => t.peek_memWrite_ne v (hslot ▸ hq)
  rw [PushedBytes, List.length_append, List.length_singleton]
  refine ⟨fun q hq => ?_, fun hs k hk => ?_⟩
  · rw [hother (hq _ (Nat.lt_succ_self _))]
    exact hframe q fun k hk => hq k (Nat.lt_succ_of_lt hk)
  · by_cases hlast : k = bytes.length
    · subst hlast
      have hget : (bytes ++ [v]).getD bytes.length 0 = v := by simp
      have hbefore := hframe (s.stackSlot (BitVec.ofNat 8 bytes.length)) fun k hk =>
        State.stackSlot_ne hlen (hk.trans hlen) hk.ne'
      rw [hget, ← State.isRam_congr hplat, ← hbefore, ← hslot]
      cases hram : t.isRam (t.translate (stackAddr (s.sp - BitVec.ofNat 8 bytes.length))) with
      | true => exact t.peek_memWrite_self (hwf hs) v hram
      | false => exact State.peek_congr (t.physWrite_mem_of_not_ram v hram) _
    · have hk' : k < bytes.length := by omega
      have hget : (bytes ++ [v]).getD k 0 = bytes.getD k 0 := by
        simp [List.getElem?_append_left hk']
      rw [hget, hother (State.stackSlot_ne (hk'.trans hlen) hlen hlast)]
      exact hpushed hs k hk'

/-- The three bytes of an entry (R520). -/
theorem State.pushedFrame_pushedBytes (s : State) (ret : Word) (status : Byte) :
    PushedBytes s (s.pushedFrame ret status) [hiByte ret, loByte ret, status] := by
  have hwrites : ∀ (t : State) (la : Word) (v : Byte),
      t.mem.wf = true → (t.memWrite la v).mem.wf = true := fun t _ v => t.physWrite_wf _ v
  have h1 := PushedBytes.nil.concat (s := s) (by decide) rfl rfl id (hiByte ret)
  have h2 := h1.concat (by simp) (by simp) (by simp) (hwrites _ _ _) (loByte ret)
  have h3 := h2.concat (by simp) (by simp) (by simp)
    (hwrites _ _ _ ∘ hwrites _ _ _) status
  delta State.pushedFrame
  simpa using h3

/-! The entry. -/

/-- The entry sequence leads to the state that Safety.lean writes out. -/
theorem State.enterInterrupt_eq_entered (s : State) (vector ret : Word) (b : Bool) :
    s.enterInterrupt vector b ret = s.entered vector b ret :=
  s.enterInterrupt_eq vector ret b

theorem State.entered_pushedBytes (s : State) (vector ret : Word) (b : Bool) :
    PushedBytes s (s.entered vector b ret) [hiByte ret, loByte ret, s.p.toByte b] :=
  s.pushedFrame_pushedBytes ret (s.p.toByte b)

/-- The state in which the entry of a selected interrupt begins: an NMI's latch is cleared first (R512). -/
def State.beforeEntry (s : State) (sel : IntSel) : State := if sel = .nmi then s.clearNmi else s

theorem State.enterHardware_eq (s : State) {sel : IntSel} (h : sel ≠ .none) :
    s.enterHardware sel = (s.beforeEntry sel).entered (vectorOf sel) false s.pc := by
  cases sel with
  | none => exact absurd rfl h
  | nmi => exact s.clearNmi.enterInterrupt_eq_entered _ _ _
  | timer => exact s.enterInterrupt_eq_entered _ _ _
  | irq1 => exact s.enterInterrupt_eq_entered _ _ _
  | irq2 => exact s.enterInterrupt_eq_entered _ _ _

/-- The bytes an entry pushes, seen from the state before the environment acted and the latch was
cleared. -/
theorem State.beforeEntry_pushedBytes (s : State) (sel : IntSel) (vector ret : Word) :
    PushedBytes s ((s.elapse.beforeEntry sel).entered vector false ret)
      [hiByte ret, loByte ret, s.p.toByte false] := by
  by_cases hnmi : sel = .nmi
  · rw [show s.elapse.beforeEntry sel = s.elapse.clearNmi from if_pos hnmi]
    exact s.elapse.clearNmi.entered_pushedBytes vector ret false
  · rw [show s.elapse.beforeEntry sel = s.elapse from if_neg hnmi]
    exact s.elapse.entered_pushedBytes vector ret false

/-- Settles O19: the step is the entry and its sample, and the entry pushes the three bytes. -/
theorem interruptEntered : Obligations.InterruptEntered := by
  rintro s sel hsel rfl hreset
  have hentry := s.elapse.enterHardware_eq hsel
  have hstep := step_of_plan_done (State.plan_of_interrupt hreset hsel)
  rw [hentry] at hstep
  exact ⟨hstep, s.beforeEntry_pushedBytes s.intSel _ s.pc⟩

end Sys2Proof.Machine

/-!
O31 to O34: the ALU in whole numbers (40_alu_arith_logic.md R200, R202 to R205). A byte is read as an unsigned
number, as a signed number and as two decimal digits; binary subtraction is the addition of the complement.
-/

namespace Sys2Proof.Machine

/-! A byte as a number. -/

/-- Bit 7 of a byte (R200: N). -/
theorem getLsbD_seven (v : Byte) : v.getLsbD 7 = decide (128 ≤ v.toNat) :=
  (BitVec.msb_eq_getLsbD_last v).symm.trans (BitVec.msb_eq_decide v)

/-- A byte that is zero (R200: Z). -/
theorem beq_zero_eq (v : Byte) : (v == 0) = decide (v.toNat = 0) :=
  decide_eq_decide.2 BitVec.toNat_inj.symm

/-- A byte as a signed number. -/
theorem toInt_byte (v : Byte) : v.toInt = if 128 ≤ v.toNat then (v.toNat : Int) - 256 else v.toNat := by
  rw [BitVec.toInt_eq_toNat_cond]
  split <;> split <;> omega

theorem toNat_not_byte (v : Byte) : (~~~v).toNat = 255 - v.toNat := BitVec.toNat_not

theorem toInt_not_byte (v : Byte) : (~~~v).toInt = -v.toInt - 1 := by
  have hlt := v.isLt
  rw [toInt_byte, toInt_byte, toNat_not_byte]
  split <;> split <;> omega

/-! N and Z (R200). -/

theorem Flags.setNZ_eq (p : Flags) (v : Byte) :
    p.setNZ v = { p with n := v.getLsbD 7, z := decide (v.toNat = 0) } :=
  congrArg (fun z => { p with n := v.getLsbD 7, z := z }) (beq_zero_eq v)

/-- Settles O31: bit 7 of a byte says that it is 128 or more. -/
theorem setNZ : Obligations.SetNZ := by
  intro p v
  rw [p.setNZ_eq, getLsbD_seven]

/-! Binary addition (R202). -/

/-- R202's two forms of the overflow bit: equal signs of the operands and another sign of the result, or bit 7
of the closed form. -/
theorem overflow_eq_closedForm (l m r : Byte) :
    ((l.getLsbD 7 == m.getLsbD 7) && (r.getLsbD 7 != l.getLsbD 7)) =
      ((l ^^^ r) &&& (m ^^^ r)).getLsbD 7 := by
  rw [BitVec.getLsbD_and, BitVec.getLsbD_xor, BitVec.getLsbD_xor]
  generalize l.getLsbD 7 = x, m.getLsbD 7 = y, r.getLsbD 7 = z
  revert x y z
  decide

/-- The sign of a sum of bytes is wrong exactly where the signed sum does not fit a byte. -/
theorem overflow_iff_signed_out_of_range {l m r : Byte} {c : Bool}
    (hr : r.toNat = (l.toNat + m.toNat + c.toNat) % 256) :
    ((l.getLsbD 7 == m.getLsbD 7) && (r.getLsbD 7 != l.getLsbD 7)) = true ↔
      l.toInt + m.toInt + c.toNat < -128 ∨ 127 < l.toInt + m.toInt + c.toNat := by
  have hl := l.isLt
  have hm := m.isLt
  have hc := c.toNat_le
  simp only [getLsbD_seven, toInt_byte, Bool.and_eq_true, beq_iff_eq, bne_iff_ne, ne_eq,
    decide_eq_decide]
  constructor
  · rintro ⟨hsame, hflip⟩
    split_ifs <;> omega
  · intro hrange
    split_ifs at hrange <;> omega

theorem addBin_toNat (l m : Byte) (p : Flags) :
    (addBin l m p).1.toNat = (l.toNat + m.toNat + p.c.toNat) % 256 :=
  BitVec.toNat_ofNat _ 8

theorem addBin_flags (l m : Byte) (p : Flags) :
    let r := (addBin l m p).1
    (addBin l m p).2 = { p with
      c := decide (l.toNat + m.toNat + p.c.toNat > 255), v := ((l ^^^ r) &&& (m ^^^ r)).getLsbD 7
      n := r.getLsbD 7, z := decide (r.toNat = 0) } := by
  intro r
  rw [← overflow_eq_closedForm]
  exact Flags.setNZ_eq _ r

theorem addBin_overflow_iff (l m : Byte) (p : Flags) :
    let r := (addBin l m p).1
    ((l ^^^ r) &&& (m ^^^ r)).getLsbD 7 = true ↔
      l.toInt + m.toInt + p.c.toNat < -128 ∨ 127 < l.toInt + m.toInt + p.c.toNat := by
  intro r
  rw [← overflow_eq_closedForm]
  exact overflow_iff_signed_out_of_range (addBin_toNat l m p)

/-- Settles O32: the result is the sum modulo 256, and the overflow bit is the range of the signed sum. -/
theorem binaryAddition : Obligations.BinaryAddition :=
  fun l m p => ⟨addBin_toNat l m p, addBin_flags l m p, addBin_overflow_iff l m p⟩

/-! Binary subtraction (R204). -/

/-- A difference with borrow is the sum with the complement. -/
theorem subBin_eq_addBin_not (l m : Byte) (p : Flags) : subBin l m p = addBin l (~~~m) p := by
  have hm := m.isLt
  have hnot := toNat_not_byte m
  have hcarry : decide ((l.toNat : Int) - m.toNat - (1 - p.c.toNat) ≥ 0) =
      decide (l.toNat + (~~~m).toNat + p.c.toNat > 255) := decide_eq_decide.2 (by omega)
  have hresult : BitVec.ofInt 8 ((l.toNat : Int) - m.toNat - (1 - p.c.toNat)) =
      BitVec.ofNat 8 (l.toNat + (~~~m).toNat + p.c.toNat) := by
    apply BitVec.eq_of_toNat_eq
    rw [BitVec.toNat_ofInt, BitVec.toNat_ofNat]
    omega
  have hsign : (l.getLsbD 7 != m.getLsbD 7) = (l.getLsbD 7 == (~~~m).getLsbD 7) := by
    rw [BitVec.getLsbD_not]
    cases l.getLsbD 7 <;> cases m.getLsbD 7 <;> rfl
  delta subBin addBin
  dsimp only
  rw [hcarry, hresult, hsign]

/-- Settles O33: the sum with the complement, in O32, is the difference with borrow. -/
theorem binarySubtraction : Obligations.BinarySubtraction := by
  intro l m p t r signed
  have hm := m.isLt
  have hnot := toNat_not_byte m
  have hr : r = (addBin l (~~~m) p).1 := congrArg Prod.fst (subBin_eq_addBin_not l m p)
  have hcarry : (l.toNat + (~~~m).toNat + p.c.toNat > 255) ↔ t ≥ 0 := by omega
  have hsigned : l.toInt + (~~~m).toInt + p.c.toNat = signed := by
    rw [toInt_not_byte]; omega
  have hoverflow : ((l ^^^ r) &&& (~~~m ^^^ r)).getLsbD 7 =
      decide (signed < -128 ∨ 127 < signed) := by
    rw [Bool.eq_iff_iff, decide_eq_true_iff, hr, ← hsigned]
    exact addBin_overflow_iff l (~~~m) p
  refine ⟨?_, ?_⟩
  · rw [hr, addBin_toNat]
    omega
  · rw [subBin_eq_addBin_not, addBin_flags, ← hr, hoverflow, decide_eq_decide.2 hcarry]

/-! Decimal addition and subtraction (R203, R205). -/

theorem isBcd_iff (v : Byte) : isBcd v = true ↔ v.toNat / 16 ≤ 9 ∧ v.toNat % 16 ≤ 9 := by
  rw [isBcd, Bool.and_eq_true, decide_eq_true_iff, decide_eq_true_iff]

theorem bcdByte_toNat {n : Nat} (h : n < 100) : (bcdByte n).toNat = n / 10 * 16 + n % 10 := by
  rw [bcdByte, BitVec.toNat_ofNat]
  omega

theorem isBcd_bcdByte {n : Nat} (h : n < 100) : isBcd (bcdByte n) = true := by
  rw [isBcd_iff, bcdByte_toNat h]
  omega

theorem bcdValue_bcdByte {n : Nat} (h : n < 100) : bcdValue (bcdByte n) = n := by
  rw [bcdValue, bcdByte_toNat h]
  omega

theorem addDec_of_isBcd {l m : Byte} (hl : isBcd l = true) (hm : isBcd m = true) (p : Flags) :
    let sum := bcdValue l + bcdValue m + p.c.toNat
    let r := bcdByte (sum % 100)
    addDec l m p = (r, { p with
      c := decide (sum > 99), n := r.getLsbD 7, z := decide (r.toNat = 0) }) := by
  intro sum r
  rw [addDec, hl, hm]
  exact congrArg (Prod.mk r) (Flags.setNZ_eq _ r)

theorem subDec_of_isBcd {l m : Byte} (hl : isBcd l = true) (hm : isBcd m = true) (p : Flags) :
    let difference : Int := bcdValue l - bcdValue m - (1 - p.c.toNat)
    let r := bcdByte (difference % 100).toNat
    subDec l m p = (r, { p with
      c := decide (difference ≥ 0), n := r.getLsbD 7, z := decide (r.toNat = 0) }) := by
  intro difference r
  rw [subDec, hl, hm]
  exact congrArg (Prod.mk r) (Flags.setNZ_eq _ r)

/-- Decimal addition writes N, Z and C only, free values included (D8). -/
theorem addDec_flags (l m : Byte) (p : Flags) :
    ∃ n z c, (addDec l m p).2 = { p with n := n, z := z, c := c } := by
  delta addDec
  split
  · exact ⟨_, _, _, rfl⟩
  · exact ⟨_, _, _, rfl⟩

/-- Decimal subtraction writes the same flags. -/
theorem subDec_flags (l m : Byte) (p : Flags) :
    ∃ n z c, (subDec l m p).2 = { p with n := n, z := z, c := c } := by
  delta subDec
  split
  · exact ⟨_, _, _, rfl⟩
  · exact ⟨_, _, _, rfl⟩

/-- Settles O34: both results are `bcdByte` of a number below 100, whose digits are its own; and the flags
beside N, Z and C stay in every case. -/
theorem decimalArithmetic : Obligations.DecimalArithmetic := by
  intro l m p digits value sum difference a d
  obtain ⟨_, _, _, ha⟩ := addDec_flags l m p
  obtain ⟨_, _, _, hd⟩ := subDec_flags l m p
  have hframe : a.2.v = p.v ∧ a.2.t = p.t ∧ a.2.d = p.d ∧ a.2.i = p.i ∧
      d.2.v = p.v ∧ d.2.t = p.t ∧ d.2.d = p.d ∧ d.2.i = p.i := by
    simp only [a, d, ha, hd, and_self]
  refine ⟨fun hl hm => ?_, hframe⟩
  have hadd := addDec_of_isBcd ((isBcd_iff l).2 hl) ((isBcd_iff m).2 hm) p
  have hsub := subDec_of_isBcd ((isBcd_iff l).2 hl) ((isBcd_iff m).2 hm) p
  have hsum : sum % 100 < 100 := Nat.mod_lt _ (by decide)
  have hdiff : (difference % 100).toNat < 100 := by omega
  have ha1 : a.1 = bcdByte (sum % 100) := congrArg Prod.fst hadd
  have hd1 : d.1 = bcdByte (difference % 100).toNat := congrArg Prod.fst hsub
  refine ⟨?_, ?_, ?_, ?_, ?_, ?_⟩
  · exact ha1 ▸ (isBcd_iff _).1 (isBcd_bcdByte hsum)
  · exact ha1 ▸ bcdValue_bcdByte hsum
  · rw [ha1]
    exact congrArg Prod.snd hadd
  · exact hd1 ▸ (isBcd_iff _).1 (isBcd_bcdByte hdiff)
  · have hvalue : value d.1 = (difference % 100).toNat := hd1 ▸ bcdValue_bcdByte hdiff
    omega
  · rw [hd1]
    exact congrArg Prod.snd hsub

end Sys2Proof.Machine

/-!
O42 to O44: ADC, AND, EOR, ORA, SBC and the compares, in every form (40_alu_arith_logic.md R201, R210 to R217).
What an instruction that reads one operand byte executes follows from its format and its mnemonic; the
shapes of Laws/Shapes.lean then give the whole next state.
-/

namespace Sys2Proof.Machine

/-! The instructions that read one operand byte. -/

theorem Source.eq_imm {src : Source} {nn : Byte} (h : src.form = .imm nn) : src = .imm nn := by
  cases src with
  | imm _ => exact congrArg Source.imm (Form.imm.inj h)
  | mem _ => cases h

theorem Source.eq_mem {src : Source} {ea : Ea} (h : src.form = .mem ea) : src = .mem ea := by
  cases src with
  | imm _ => cases h
  | mem _ => exact congrArg Source.mem (Form.mem.inj h)

/-- The instructions with the frame of R201. -/
def aluMnemonics : List Mnemonic := [.adc, .and, .eor, .ora]

/-- The other instructions that read one operand byte. -/
def operandMnemonics : List Mnemonic := [.sbc, .cmp, .cpx, .cpy, .lda, .ldx, .ldy, .bit]

/-- ADC, AND, EOR and ORA in every form: the source is that of the format. -/
theorem exec_alu_of_form {i : Instr} {m : Mnemonic} {src : Source} (s : State)
    (hform : i.form = src.form) (hname : i.mnemonic = m) (hm : aluMnemonics.contains m = true) :
    exec i s = .next (s.aluT (aluOp m) src) := by
  subst hname
  cases i with
  | adcImm _ | andImm _ | eorImm _ | oraImm _ => rw [Source.eq_imm hform.symm]; rfl
  | adcZp _ | adcZpX _ | adcInd _ | adcIndX _ | adcIndY _ | adcAbs _ | adcAbsX _ | adcAbsY _
  | andZp _ | andZpX _ | andInd _ | andIndX _ | andIndY _ | andAbs _ | andAbsX _ | andAbsY _
  | eorZp _ | eorZpX _ | eorInd _ | eorIndX _ | eorIndY _ | eorAbs _ | eorAbsX _ | eorAbsY _
  | oraZp _ | oraZpX _ | oraInd _ | oraIndX _ | oraIndY _ | oraAbs _ | oraAbsX _ | oraAbsY _ =>
    rw [Source.eq_mem hform.symm]; rfl
  | _ => cases hm

/-- The other instructions that read one operand byte, in every form. -/
theorem exec_operand_of_form {i : Instr} {m : Mnemonic} {src : Source} (s : State)
    (hform : i.form = src.form) (hname : i.mnemonic = m) (hm : operandMnemonics.contains m = true) :
    exec i s = .next (s.withOperand src (operandOp m)) := by
  subst hname
  cases i with
  | sbcImm _ | cmpImm _ | cpxImm _ | cpyImm _ | ldaImm _ | ldxImm _ | ldyImm _ | bitImm _ =>
    rw [Source.eq_imm hform.symm]; rfl
  | sbcZp _ | sbcZpX _ | sbcInd _ | sbcIndX _ | sbcIndY _ | sbcAbs _ | sbcAbsX _ | sbcAbsY _
  | cmpZp _ | cmpZpX _ | cmpInd _ | cmpIndX _ | cmpIndY _ | cmpAbs _ | cmpAbsX _ | cmpAbsY _
  | cpxZp _ | cpxAbs _ | cpyZp _ | cpyAbs _
  | ldaZp _ | ldaZpX _ | ldaInd _ | ldaIndX _ | ldaIndY _ | ldaAbs _ | ldaAbsX _ | ldaAbsY _
  | ldxZp _ | ldxZpY _ | ldxAbs _ | ldxAbsY _ | ldyZp _ | ldyZpX _ | ldyAbs _ | ldyAbsX _
  | bitZp _ | bitZpX _ | bitAbs _ | bitAbsX _ =>
    rw [Source.eq_mem hform.symm]; rfl
  | _ => cases hm

theorem Instr.length_of_form {i : Instr} {src : Source} (hf : i.form = src.form) :
    i.length = src.form.length :=
  congrArg Form.length hf

/-! Frames of memory. -/

theorem SameMemory.of_mem {s t : State} (h : t.mem = s.mem) : SameMemory s t :=
  fun q => State.peek_congr h q

/-- A write through a state whose memory, platform and mapping are those of `s`. -/
theorem StoredByte.of_memWrite {s u t : State} {la : Word} {v : Byte} (hmem : u.mem = s.mem)
    (hplatform : u.platform = s.platform) (hmpr : u.mpr = s.mpr)
    (ht : t.mem = (u.memWrite la v).mem) : StoredByte s t (s.translate la) v := by
  have hpeek (q : PhysAddr) : t.peek q = (u.memWrite la v).peek q := State.peek_congr ht q
  have hsame (q : PhysAddr) : u.peek q = s.peek q := State.peek_congr hmem q
  rw [StoredByte, ← State.translate_congr hmpr, ← State.isRam_congr hplatform]
  refine ⟨fun q hq => ?_, fun hwf => ?_⟩
  · rw [hpeek, u.peek_memWrite_ne v hq, hsame]
  · rw [hpeek]
    cases hram : u.isRam (u.translate la) with
    | true => exact u.peek_memWrite_self (hmem ▸ hwf) v hram
    | false =>
      exact (State.peek_congr (u.physWrite_mem_of_not_ram v hram) _).trans (hsame _)

/-! ADC, AND, EOR, ORA and SBC. -/

/-- SBC on A: the whole next state. -/
theorem State.withOperand_subtractFromA (s : State) (src : Source) :
    let r := sbcOp s.a (s.operand src).1 s.p.fetched
    s.withOperand src State.subtractFromA = { s with
      a := r.1, p := r.2, pc := s.pc + BitVec.ofNat 16 src.form.length
      io := (s.operand src).2.io } :=
  s.withOperand_eq src _

/-- Settles O42: the format gives the source, and the shape with t_in = 0 or SBC's gives the next state. -/
theorem aluOnAccumulator : Obligations.AluOnAccumulator := by
  intro i src op s hform hop m r t
  refine ⟨?_, .of_mem rfl⟩
  have halu {k : Mnemonic} (hname : i.mnemonic = k) (hk : aluMnemonics.contains k = true)
      (ht : s.p.t = false) (hop : op = aluOp k) : exec i s = .next t := by
    rw [exec_alu_of_form s hform hname hk, s.aluT_accumulator _ src ht, ← hop,
      ← Instr.length_of_form hform]
  obtain ⟨hname, ht, hop⟩ | ⟨hname, ht, hop⟩ | ⟨hname, ht, hop⟩ | ⟨hname, ht, hop⟩ | ⟨hname, rfl⟩ :=
    hop
  · exact halu hname rfl ht hop
  · exact halu hname rfl ht hop
  · exact halu hname rfl ht hop
  · exact halu hname rfl ht hop
  · rw [exec_operand_of_form s hform hname rfl]
    exact congrArg Host.Outcome.next ((s.withOperand_subtractFromA src).trans
      (Instr.length_of_form hform ▸ rfl))

/-- Settles O43: the shape with t_in = 1, whose write is the one store. -/
theorem aluOnZeroPage : Obligations.AluOnZeroPage := by
  intro i src op s hform ht hop m l r w t
  refine ⟨?_, .of_memWrite (u := l.2) (by simp [l, m]) (by simp [l, m]) (by simp [l, m]) rfl⟩
  have halu {k : Mnemonic} (hname : i.mnemonic = k) (hk : aluMnemonics.contains k = true)
      (hop : op = aluOp k) : exec i s = .next t := by
    rw [exec_alu_of_form s hform hname hk, s.aluT_zeroPage _ src ht, ← hop,
      ← Instr.length_of_form hform]
  obtain ⟨hname, hop⟩ | ⟨hname, hop⟩ | ⟨hname, hop⟩ | ⟨hname, hop⟩ := hop
  · exact halu hname rfl hop
  · exact halu hname rfl hop
  · exact halu hname rfl hop
  · exact halu hname rfl hop

/-! The compares. -/

/-- The flags of a comparison, in whole numbers (R212). -/
theorem compareFlags_eq (r m : Byte) (p : Flags) :
    compareFlags r m p = { p with
      c := decide (m.toNat ≤ r.toNat)
      n := decide (128 ≤ (r.toNat + 256 - m.toNat) % 256), z := decide (r = m) } := by
  have hm := m.isLt
  have hdiff : (r - m).toNat = (r.toNat + 256 - m.toNat) % 256 := by
    rw [BitVec.toNat_sub]
    omega
  have hzero : decide ((r - m).toNat = 0) = decide (r = m) := by
    rw [decide_eq_decide, ← BitVec.toNat_inj]
    omega
  rw [compareFlags, Flags.setNZ_eq, getLsbD_seven, hzero, hdiff]

/-- A comparison of whatever register byte the effect takes: the whole next state. -/
theorem State.withOperand_compareWith (s : State) (src : Source) {f : State → Byte → State} {r : Byte}
    (heffect : ∀ io m, f { s with p := s.p.fetched, io := io } m =
      State.compareWith { s with p := s.p.fetched, io := io } r m) :
    s.withOperand src f = { s with
      p := compareFlags r (s.operand src).1 s.p.fetched
      pc := s.pc + BitVec.ofNat 16 src.form.length, io := (s.operand src).2.io } := by
  rw [s.withOperand_eq, heffect]
  rfl

/-- Settles O44: each compare is the comparison of its register, and leaves memory. -/
theorem compareResult : Obligations.CompareResult := by
  intro i src r s hform hop m t
  refine ⟨?_, .of_mem rfl⟩
  have hcompare {k : Mnemonic} (hname : i.mnemonic = k) (hk : operandMnemonics.contains k = true)
      (heffect : ∀ io m, operandOp k { s with p := s.p.fetched, io := io } m =
        State.compareWith { s with p := s.p.fetched, io := io } r m) : exec i s = .next t := by
    rw [exec_operand_of_form s hform hname hk, s.withOperand_compareWith src heffect,
      compareFlags_eq, ← Instr.length_of_form hform]
  obtain ⟨hname, rfl⟩ | ⟨hname, rfl⟩ | ⟨hname, rfl⟩ := hop
  · exact hcompare hname rfl fun _ _ => rfl
  · exact hcompare hname rfl fun _ _ => rfl
  · exact hcompare hname rfl fun _ _ => rfl

end Sys2Proof.Machine

/-!
O35, O45, O39 and O40: the shifts and counts, the transfers and NOP (41_alu_shift_incdec.md R240 to R253,
43_data_transfer.md R307 to R315, 48_control.md R451, R454, R455). A shift or a count is first a function of a
byte in whole numbers; its mnemonic and its format then give the instruction's shape, on A, on an index
register or on memory.
-/

namespace Sys2Proof.Machine

/-! The shifts and counts in whole numbers. -/

/-- Bit 0 of a byte (R242, R244: C). -/
theorem getLsbD_zero (v : Byte) : v.getLsbD 0 = decide (v.toNat % 2 = 1) :=
  Nat.testBit_zero v.toNat

theorem toNat_shiftLeft_one (v : Byte) : (v <<< 1).toNat = 2 * v.toNat % 256 := by
  rw [BitVec.toNat_shiftLeft, Nat.shiftLeft_eq, Nat.mul_comm]

theorem toNat_shiftRight_one (v : Byte) : (v >>> 1).toNat = v.toNat / 2 :=
  BitVec.toNat_ushiftRight v 1

/-- The carry as a byte. -/
theorem toNat_carryByte (c : Bool) : ((BitVec.ofBool c).setWidth 8).toNat = c.toNat := by
  cases c <;> rfl

/-- The carry at bit 7. -/
theorem toNat_carryByte_shiftLeft_seven (c : Bool) :
    ((BitVec.ofBool c).setWidth 8 <<< 7).toNat = 128 * c.toNat := by
  cases c <;> rfl

theorem aslOp_toNat (v : Byte) (p : Flags) : (aslOp v p).1.toNat = 2 * v.toNat % 256 :=
  toNat_shiftLeft_one v

theorem lsrOp_toNat (v : Byte) (p : Flags) : (lsrOp v p).1.toNat = v.toNat / 2 :=
  toNat_shiftRight_one v

/-- The carry enters at bit 0, which the shift cleared. -/
theorem rolOp_toNat (v : Byte) (p : Flags) :
    (rolOp v p).1.toNat = (2 * v.toNat + p.c.toNat) % 256 := by
  have hc := p.c.toNat_lt
  have hshifted : 2 * v.toNat % 256 = 2 ^ 1 * (v.toNat % 128) := by omega
  calc (rolOp v p).1.toNat
      = 2 ^ 1 * (v.toNat % 128) ||| p.c.toNat := by
        rw [rolOp, BitVec.toNat_or, toNat_shiftLeft_one, toNat_carryByte, hshifted]
    _ = 2 ^ 1 * (v.toNat % 128) + p.c.toNat := (Nat.two_pow_add_eq_or_of_lt hc _).symm
    _ = (2 * v.toNat + p.c.toNat) % 256 := by omega

/-- The carry enters at bit 7, which the shift cleared. -/
theorem rorOp_toNat (v : Byte) (p : Flags) :
    (rorOp v p).1.toNat = v.toNat / 2 + 128 * p.c.toNat := by
  have hhalf : v.toNat / 2 < 2 ^ 7 := by omega
  calc (rorOp v p).1.toNat
      = v.toNat / 2 ||| 2 ^ 7 * p.c.toNat := by
        rw [rorOp, BitVec.toNat_or, toNat_shiftRight_one, toNat_carryByte_shiftLeft_seven]
        rfl
    _ = 2 ^ 7 * p.c.toNat ||| v.toNat / 2 := Nat.lor_comm _ _
    _ = 2 ^ 7 * p.c.toNat + v.toNat / 2 := (Nat.two_pow_add_eq_or_of_lt hhalf _).symm
    _ = v.toNat / 2 + 128 * p.c.toNat := Nat.add_comm _ _

theorem incOp_toNat (v : Byte) (p : Flags) : (incOp v p).1.toNat = (v.toNat + 1) % 256 :=
  BitVec.toNat_add v 1

theorem decOp_toNat (v : Byte) (p : Flags) : (decOp v p).1.toNat = (v.toNat + 255) % 256 := by
  rw [decOp, BitVec.toNat_sub, Nat.add_comm]
  rfl

/-- LSR's result has bit 7 clear, so that the N it resets is that of R200. -/
theorem lsrOp_setNZ (v : Byte) (p : Flags) :
    (lsrOp v p).2 = { p with c := v.getLsbD 0 }.setNZ (lsrOp v p).1 := by
  have hpositive : (v >>> 1).getLsbD 7 = false := by
    rw [getLsbD_seven, toNat_shiftRight_one, decide_eq_false_iff_not]
    omega
  rw [lsrOp, Flags.setNZ, hpositive]

/-- Settles O35: each operation's result as a number, its carry as the bit shifted out, and N and Z by O31. -/
theorem shiftsAndCounts : Obligations.ShiftsAndCounts := by
  intro v p nz
  have hnz (q : Flags) (r : Byte) : q.setNZ r = nz r q := setNZ q r
  have hhigh : v.getLsbD 7 = decide (128 ≤ v.toNat) := getLsbD_seven v
  have hlow : v.getLsbD 0 = decide (v.toNat % 2 = 1) := getLsbD_zero v
  refine ⟨⟨aslOp_toNat v p, ?_⟩, ⟨lsrOp_toNat v p, ?_⟩, ⟨rolOp_toNat v p, ?_⟩, ⟨rorOp_toNat v p, ?_⟩,
    ⟨incOp_toNat v p, hnz p _⟩, ⟨decOp_toNat v p, hnz p _⟩⟩
  · rw [← hhigh]
    exact hnz _ _
  · rw [← hlow, lsrOp_setNZ]
    exact hnz _ _
  · rw [← hhigh]
    exact hnz _ _
  · rw [← hlow]
    exact hnz _ _

/-! The shifts and counts on A and on memory. -/

/-- The shifts and counts that exist on A and on memory. -/
def shiftMnemonics : List Mnemonic := [.asl, .lsr, .rol, .ror, .inc, .dec]

theorem exec_shift_of_form_acc {i : Instr} {m : Mnemonic} (s : State) (hform : i.form = .acc)
    (hname : i.mnemonic = m) : exec i s = .next (s.rmwA (shiftOp m)) := by
  subst hname
  cases i with
  | aslAcc | lsrAcc | rolAcc | rorAcc | incAcc | decAcc => rfl
  | _ => cases hform

theorem exec_shift_of_form_mem {i : Instr} {m : Mnemonic} {ea : Ea} (s : State)
    (hform : i.form = .mem ea) (hname : i.mnemonic = m) (hm : shiftMnemonics.contains m = true) :
    exec i s = .next (s.rmw (shiftOp m) ea) := by
  subst hname
  cases i with
  | aslZp _ | aslZpX _ | aslAbs _ | aslAbsX _ | lsrZp _ | lsrZpX _ | lsrAbs _ | lsrAbsX _
  | rolZp _ | rolZpX _ | rolAbs _ | rolAbsX _ | rorZp _ | rorZpX _ | rorAbs _ | rorAbsX _
  | incZp _ | incZpX _ | incAbs _ | incAbsX _ | decZp _ | decZpX _ | decAbs _ | decAbsX _ =>
    cases hform; rfl
  | aslAcc | lsrAcc | rolAcc | rorAcc | incAcc | decAcc => cases hform
  | _ => cases hm

/-- A shift or a count on A, and its frame. -/
theorem exec_shift_on_accumulator {i : Instr} {m : Mnemonic} (s : State) (hform : i.form = .acc)
    (hname : i.mnemonic = m) :
    let r := shiftOp m s.a s.p.fetched
    let t := { s with a := r.1, p := r.2, pc := s.pc + 1 }
    exec i s = .next t ∧ SameMemory s t := by
  intro r t
  refine ⟨?_, .of_mem rfl⟩
  rw [exec_shift_of_form_acc s hform hname, s.rmwA_eq]

/-- A shift or a count of the byte at the effective address, and its frame: the write is the one store. -/
theorem exec_shift_on_memory {i : Instr} {m : Mnemonic} {ea : Ea} (s : State)
    (hform : i.form = .mem ea) (hname : i.mnemonic = m) (hm : shiftMnemonics.contains m = true) :
    let e := s.effAddr ea
    let b := e.2.memRead e.1
    let r := shiftOp m b.1 s.p.fetched
    let w := b.2.memWrite e.1 r.1
    let t := { s with p := r.2, pc := s.pc + BitVec.ofNat 16 i.length, mem := w.mem, io := w.io }
    exec i s = .next t ∧ StoredByte s t (s.translate e.1) r.1 := by
  intro e b r w t
  refine ⟨?_, .of_memWrite (u := b.2) (by simp [b, e]) (by simp [b, e]) (by simp [b, e]) rfl⟩
  have hlength : i.length = 1 + ea.size := congrArg Form.length hform
  rw [exec_shift_of_form_mem s hform hname hm, s.rmw_eq, ← hlength]

/-- Settles O45: the operation is that of the mnemonic, and the format gives the frame on A or on memory. -/
theorem readModifyWriteResult : Obligations.ReadModifyWriteResult := by
  intro i op s hop
  obtain ⟨m, hname, hm, rfl⟩ :
      ∃ m, i.mnemonic = m ∧ shiftMnemonics.contains m = true ∧ op = shiftOp m := by
    obtain ⟨hname, hop⟩ | ⟨hname, hop⟩ | ⟨hname, hop⟩ | ⟨hname, hop⟩ | ⟨hname, hop⟩ | ⟨hname, hop⟩ :=
      hop
    all_goals exact ⟨_, hname, rfl, hop⟩
  exact ⟨fun hacc => exec_shift_on_accumulator s hacc hname,
    fun _ hmem => exec_shift_on_memory s hmem hname hm⟩

/-! Instructions without an operand. -/

/-- The modifiers of 70_reset_and_hazards.md R622 do not reach an instruction without an operand. -/
theorem cycleCount_of_form_imp {i : Instr} (s : State) (hform : i.form = .imp) :
    cycleCount i s = baseCycles i.mnemonic .imp := by
  cases i with
  | inx | iny | dex | dey | cla | clx | cly | clc | cld | cli | clv | sec | sed | sei | setT
  | sax | say | sxy | tax | tay | tsx | txa | txs | tya | nop | csh | csl
  | pha | php | phx | phy | pla | plp | plx | ply | rts | rti | brk => rfl
  | _ => cases hform

/-- A cycle count that a list of instructions without an operand shares. -/
theorem cycleCount_of_all_imp {l : List Instr} {n : Nat} (s : State)
    (h : ∀ i ∈ l, i.form = .imp ∧ baseCycles i.mnemonic .imp = n) : ∀ i ∈ l, cycleCount i s = n := by
  intro i hi
  obtain ⟨hform, hbase⟩ := h i hi
  rw [cycleCount_of_form_imp s hform, hbase]

/-- A count of X: the operation sees the flags after the fetch, which cleared T. -/
theorem State.implied_countX (s : State) (op : Byte → Flags → Byte × Flags) :
    (s.implied fun u => u.countX op) = { s with
      x := (op s.x s.p.fetched).1, p := (op s.x s.p.fetched).2, pc := s.pc + 1 } := rfl

/-- See `State.implied_countX`. -/
theorem State.implied_countY (s : State) (op : Byte → Flags → Byte × Flags) :
    (s.implied fun u => u.countY op) = { s with
      y := (op s.y s.p.fetched).1, p := (op s.y s.p.fetched).2, pc := s.pc + 1 } := rfl

/-- A transfer to A, with N and Z from the byte. -/
theorem State.implied_loadA (s : State) (r : State → Byte) :
    (s.implied fun u => u.loadA (r u)) = { s with
      a := r s.clearT, p := s.p.fetched.setNZ (r s.clearT), pc := s.pc + 1 } := rfl

/-- See `State.implied_loadA`. -/
theorem State.implied_loadX (s : State) (r : State → Byte) :
    (s.implied fun u => u.loadX (r u)) = { s with
      x := r s.clearT, p := s.p.fetched.setNZ (r s.clearT), pc := s.pc + 1 } := rfl

/-- See `State.implied_loadA`. -/
theorem State.implied_loadY (s : State) (r : State → Byte) :
    (s.implied fun u => u.loadY (r u)) = { s with
      y := r s.clearT, p := s.p.fetched.setNZ (r s.clearT), pc := s.pc + 1 } := rfl

/-- Settles O39: the transfers but TXS set N and Z from the byte moved, the others move bytes alone. -/
theorem transferResult : Obligations.TransferResult := by
  intro s f nz
  refine ⟨by decide, cycleCount_of_all_imp s (by decide), cycleCount_of_all_imp s (by decide),
    ?tax, ?tay, ?tsx, ?txa, ?tya, exec_txs s, exec_sax s, exec_say s, exec_sxy s, exec_cla s,
    exec_clx s, exec_cly s, exec_nop s, exec_csh s, exec_csl s, .of_mem rfl⟩
  case tax => exact congrArg Host.Outcome.next (s.implied_loadX State.a)
  case tay => exact congrArg Host.Outcome.next (s.implied_loadY State.a)
  case tsx => exact congrArg Host.Outcome.next (s.implied_loadX State.sp)
  case txa => exact congrArg Host.Outcome.next (s.implied_loadA State.x)
  case tya => exact congrArg Host.Outcome.next (s.implied_loadA State.y)

/-- Settles O40: INC's and DEC's operations on X and Y. -/
theorem indexCountResult : Obligations.IndexCountResult := by
  intro s f nz
  refine ⟨by decide, ?cycles, ?inx, ?iny, ?dex, ?dey, .of_mem rfl⟩
  case cycles =>
    exact ⟨cycleCount_of_form_imp s rfl, cycleCount_of_form_imp s rfl,
      cycleCount_of_form_imp s rfl, cycleCount_of_form_imp s rfl⟩
  case inx => exact congrArg Host.Outcome.next (s.implied_countX incOp)
  case iny => exact congrArg Host.Outcome.next (s.implied_countY incOp)
  case dex => exact congrArg Host.Outcome.next (s.implied_countX decOp)
  case dey => exact congrArg Host.Outcome.next (s.implied_countY decOp)

end Sys2Proof.Machine

/-!
O41 and O21: the flag instructions (42_flag.md R280 to R287) and the delay of CLI (R282, 60_exceptions.md
R511). At rest an instruction that leaves block $FF alone ends with a sample of block $FF as it stands; after
CLI that sample still sees I = 1, after the NOP behind it I = 0.
-/

namespace Sys2Proof.Machine

/-! The flag instructions. -/

/-- A write of the flags: `f` sees them after the fetch, which cleared T. -/
theorem State.implied_setP (s : State) (f : Flags → Flags) :
    (s.implied fun u => u.setP (f u.p)) = { s with p := f s.p.fetched, pc := s.pc + 1 } := rfl

/-- Settles O41: each flag instruction writes one flag into the flags after the fetch. -/
theorem flagInstructionResult : Obligations.FlagInstructionResult := by
  intro s f p
  refine ⟨by decide, ?cycles, ?clc, ?cld, ?cli, ?clv, ?sec, ?sed, ?sei, ?setT, .of_mem rfl⟩
  case cycles =>
    have hcycles : ∀ i ∈ [Instr.clc, .cld, .cli, .clv, .sec, .sed, .sei, .setT], cycleCount i s = 2 :=
      cycleCount_of_all_imp s (by decide)
    simpa using hcycles
  case clc => exact congrArg Host.Outcome.next (s.implied_setP fun q => { q with c := false })
  case cld => exact congrArg Host.Outcome.next (s.implied_setP fun q => { q with d := false })
  case cli => exact congrArg Host.Outcome.next (s.implied_setP fun q => { q with i := false })
  case clv => exact congrArg Host.Outcome.next (s.implied_setP fun q => { q with v := false })
  case sec => exact congrArg Host.Outcome.next (s.implied_setP fun q => { q with c := true })
  case sed => exact congrArg Host.Outcome.next (s.implied_setP fun q => { q with d := true })
  case sei => exact congrArg Host.Outcome.next (s.implied_setP fun q => { q with i := true })
  case setT => exact congrArg Host.Outcome.next (s.implied_setP fun q => { q with t := true })

/-! Steps at rest. -/

theorem State.SameBus.atRest {s t : State} (h : State.SameBus s t) (hrest : s.atRest = true) :
    t.atRest = true := by
  delta State.atRest at hrest ⊢
  rwa [h.io]

theorem State.SameBus.holds {s t : State} (h : State.SameBus s t) {la : Word} {bytes : List Byte}
    (hholds : s.holds la bytes = true) : t.holds la bytes = true := by
  induction bytes generalizing la with
  | nil => rfl
  | cons b bytes ih =>
    obtain ⟨hmemory, hb, htail⟩ := State.holds_cons.1 hholds
    rw [State.holds_cons, State.translate_congr h.mpr, State.isMemory_congr h.platform,
      State.peek_congr h.mem]
    exact ⟨hmemory, hb, ih htail⟩

/-- At rest the sample sees block $FF as it stands. -/
theorem State.sample_of_atRest {s : State} (hrest : s.atRest = true) (iEff : Bool) :
    s.sample iEff = { s with intSel := s.io.select iEff } := by
  obtain ⟨hquiet, -⟩ := State.elapse_of_atRest hrest
  delta State.sample
  rw [hquiet]

/-- At rest a step runs the instruction in memory; where that leaves the bus alone, the sample after it
sees block $FF as it was before. -/
theorem step_of_exec_sameBus {s t : State} {i : Instr} (hrest : s.atRest = true)
    (hsel : s.intSel = .none) (hholds : s.holds s.pc (encode i) = true) (hexec : exec i s = .next t)
    (hbus : State.SameBus s t) :
    step s = .next { t with
      intSel := t.io.select (if delaysI i then s.p.i else t.p.i) } := by
  rw [stepRunsInstructionInMemory s i hrest hsel hholds, hexec]
  exact congrArg Host.Outcome.next (State.sample_of_atRest (hbus.atRest hrest) _)

/-- CLI at rest: the sample after it uses I as it was before (R511). -/
theorem step_cli_of_atRest {s : State} (hrest : s.atRest = true) (hsel : s.intSel = .none)
    (hholds : s.holds s.pc (encode .cli) = true) :
    step s = .next { s with
      pc := s.pc + 1, p := { s.p with t := false, i := false }, intSel := s.io.select s.p.i } :=
  step_of_exec_sameBus hrest hsel hholds (exec_cli s) ⟨rfl, rfl, rfl, rfl⟩

/-- NOP at rest: the sample after it uses I as it is. -/
theorem step_nop_of_atRest {s : State} (hrest : s.atRest = true) (hsel : s.intSel = .none)
    (hholds : s.holds s.pc (encode .nop) = true) :
    step s = .next { s with
      pc := s.pc + 1, p := s.p.fetched, intSel := s.io.select s.p.i } :=
  step_of_exec_sameBus hrest hsel hholds (exec_nop s) ⟨rfl, rfl, rfl, rfl⟩

/-! The delay of CLI. -/

/-- I masks every request but a latched NMI (R510). -/
theorem Io.select_masked {io : Io} (hnmi : io.nmiPending = false) : io.select true = .none := by
  simp [Io.select, hnmi]

/-- IRQ1 is selected where it is asserted and enabled, and neither NMI nor TIMER goes before it (R510). -/
theorem Io.select_irq1 {io : Io} (hnmi : io.nmiPending = false) (htiq : io.tiq = false)
    (hpin : io.pins.irq1 = .low) (henabled : io.idr.irq1d = false) :
    io.select false = .irq1 := by
  simp [Io.select, hnmi, htiq, hpin, henabled]

/-- The state after CLI under I = 1: the sample selected nothing. -/
def State.afterCli (s : State) : State :=
  { s with pc := s.pc + 1, p := { s.p with t := false, i := false }, intSel := .none }

/-- The state after `CLI; NOP`: the sample after NOP selected IRQ1. -/
def State.afterCliNop (s : State) : State :=
  { s with pc := s.pc + 2, p := { s.p with t := false, i := false }, intSel := .irq1 }

theorem State.sameBus_afterCli (s : State) : State.SameBus s s.afterCli := ⟨rfl, rfl, rfl, rfl⟩

theorem State.sameBus_afterCliNop (s : State) : State.SameBus s s.afterCliNop := ⟨rfl, rfl, rfl, rfl⟩

/-- With I = 1 and no NMI the sample after CLI selects nothing, whatever is requested (R282). -/
theorem step_eq_afterCli {s : State} (hrest : s.atRest = true) (hsel : s.intSel = .none)
    (hi : s.p.i = true) (hnmi : s.io.nmiPending = false)
    (hholds : s.holds s.pc (encode .cli) = true) : step s = .next s.afterCli := by
  rw [step_cli_of_atRest hrest hsel hholds, hi, Io.select_masked hnmi]
  rfl

/-- The NOP behind CLI runs; its sample sees I = 0 and selects IRQ1. -/
theorem step_afterCli {s : State} (hrest : s.atRest = true)
    (hirq1 : s.io.select false = .irq1) (hholds : s.holds (s.pc + 1) (encode .nop) = true) :
    step s.afterCli = .next s.afterCliNop := by
  have hnop : step s.afterCli = .next { s with
      pc := s.pc + 1 + 1, p := { s.p with t := false, i := false }
      intSel := s.io.select false } :=
    step_nop_of_atRest (s.sameBus_afterCli.atRest hrest) rfl (s.sameBus_afterCli.holds hholds)
  rw [hnop, hirq1, show s.pc + 1 + 1 = s.pc + 2 by bv_omega]
  rfl

/-- Settles O21: the sample after CLI selects nothing, the one after NOP selects IRQ1, and the entry is
O19's. -/
theorem cliDelaysInterrupt : Obligations.CliDelaysInterrupt := by
  intro s hrest hsel hi hnmi htiq hpin henabled hholds
  obtain ⟨hmemory, hop, hnop⟩ := State.holds_cons.1 hholds
  have hcli : s.holds s.pc (encode .cli) = true := State.holds_cons.2 ⟨hmemory, hop, rfl⟩
  obtain ⟨hquiet, hreset⟩ := State.elapse_of_atRest (s.sameBus_afterCliNop.atRest hrest)
  obtain ⟨hentry, hpushed⟩ := interruptEntered s.afterCliNop .irq1 (by decide) rfl
    (by rw [hquiet]; exact hreset)
  exact ⟨s.afterCli, s.afterCliNop, _, step_eq_afterCli hrest hsel hi hnmi hcli, rfl,
    step_afterCli hrest (Io.select_irq1 hnmi htiq hpin henabled) hnop, rfl, rfl,
    hentry, rfl, rfl, hpushed⟩

end Sys2Proof.Machine

/-!
O37, O38 and O57: the loads, the stores and the mapping registers (43_data_transfer.md R300 to R306, R319,
R320). A load is the effect of its mnemonic on the operand, a store is one write of the byte of its mnemonic,
TAM and TMA reach the mapping registers one by one.
-/

namespace Sys2Proof.Machine

/-! Loads. -/

/-- An instruction that reads one operand byte: the whole next state, with the effect of its mnemonic on the
state after the read. -/
theorem exec_operand_eq {i : Instr} {m : Mnemonic} {src : Source} (s : State)
    (hform : i.form = src.form) (hname : i.mnemonic = m) (hm : operandMnemonics.contains m = true) :
    exec i s = .next ((operandOp m { s with p := s.p.fetched, io := (s.operand src).2.io }
      (s.operand src).1).advance i.length) := by
  rw [exec_operand_of_form s hform hname hm, s.withOperand_eq, ← Instr.length_of_form hform]

/-- Settles O37: the effect of each load is one register, and N and Z from the byte it takes. -/
theorem loadResult : Obligations.LoadResult := by
  intro i src s hform m p t
  refine ⟨.of_mem rfl, fun hlda => ?_, fun hldx => ?_, fun hldy => ?_⟩
  · exact exec_operand_eq s hform hlda rfl
  · exact exec_operand_eq s hform hldx rfl
  · exact exec_operand_eq s hform hldy rfl

/-! Stores. -/

/-- The stores to memory through an effective address. -/
def storeMnemonics : List Mnemonic := [.sta, .stx, .sty, .stz]

/-- The byte each of them stores. -/
def byteToStore : Mnemonic → State → Byte
  | .sta => State.a
  | .stx => State.x
  | .sty => State.y
  | _ => fun _ => 0

/-- STA, STX, STY and STZ in every form: the effective address is that of the format. -/
theorem exec_store_of_form {i : Instr} {m : Mnemonic} {ea : Ea} (s : State)
    (hform : i.form = .mem ea) (hname : i.mnemonic = m) (hm : storeMnemonics.contains m = true) :
    exec i s = .next (s.storeTo ea (byteToStore m s)) := by
  subst hname
  cases i with
  | staZp _ | staZpX _ | staInd _ | staIndX _ | staIndY _ | staAbs _ | staAbsX _ | staAbsY _
  | stxZp _ | stxZpY _ | stxAbs _ | styZp _ | styZpX _ | styAbs _
  | stzZp _ | stzZpX _ | stzAbs _ | stzAbsX _ => cases hform; rfl
  | _ => cases hm

/-- Settles O38: the byte is that of the mnemonic, and the write of the shape is the one store. -/
theorem storeResult : Obligations.StoreResult := by
  intro i ea v s hform hop e w t
  obtain ⟨m, hname, hm, rfl⟩ :
      ∃ m, i.mnemonic = m ∧ storeMnemonics.contains m = true ∧ v = byteToStore m s := by
    obtain ⟨hname, hv⟩ | ⟨hname, hv⟩ | ⟨hname, hv⟩ | ⟨hname, hv⟩ := hop
    all_goals exact ⟨_, hname, rfl, hv⟩
  have hlength : i.length = 1 + ea.size := congrArg Form.length hform
  refine ⟨?_, .of_memWrite (u := e.2) (by simp [e]) (by simp [e]) (by simp [e]) rfl⟩
  rw [exec_store_of_form s hform hname hm, s.storeTo_eq, ← hlength]

/-! The mapping registers. -/

/-- TAM's transfer reaches the registers whose mask bit is 1, and no other (R319). -/
theorem Mpr.get_load (m : Mpr) (mask v : Byte) (i : Fin 8) :
    (m.load mask v).get i = if mask.getLsbD i.val then v else m.get i := by
  match i with
  | 0 | 1 | 2 | 3 | 4 | 5 | 6 | 7 => rfl

/-- A mask with one bit set is one TMA completes with, and selects the register of that bit (R320). -/
theorem oneHot_selects (k : Fin 8) :
    atMostOneBit (1#8 <<< k.val) = true ∧ 1#8 <<< k.val ≠ 0 ∧ maskIndex (1#8 <<< k.val) = k := by
  revert k
  decide

/-- With mask 0 TMA reads the latch (the spec's decision D11, log 27). -/
theorem State.readMpr_zero (s : State) : s.readMpr 0 = s.mprLatch := rfl

/-- With one mask bit set TMA reads the register of that bit. -/
theorem State.readMpr_oneHot (s : State) (k : Fin 8) :
    s.readMpr (1#8 <<< k.val) = s.mpr.get k := by
  obtain ⟨-, hne, hindex⟩ := oneHot_selects k
  rw [State.readMpr, if_neg hne, hindex]

/-- TMA with at most one mask bit set: the whole next state. -/
theorem exec_tma_of_atMostOneBit (s : State) {mask : Byte} (h : atMostOneBit mask = true) :
    exec (.tma mask) s = .next { s with
      a := s.readMpr mask, p := s.p.fetched, pc := s.pc + 2 } := by
  rw [exec_tma, if_pos h]
  rfl

/-- Settles O57: TAM register by register, TMA with one mask bit and with none. -/
theorem mappingTransferResult : Obligations.MappingTransferResult := by
  intro s mask k f
  refine ⟨⟨_, exec_tam s mask, s.mpr.get_load mask s.a, rfl⟩, ?oneHot, ?zero, .of_mem rfl⟩
  case oneHot =>
    obtain ⟨hcompletes, -, -⟩ := oneHot_selects k
    rw [exec_tma_of_atMostOneBit s hcompletes, s.readMpr_oneHot]
  case zero => rw [exec_tma_of_atMostOneBit s (by decide), s.readMpr_zero]

end Sys2Proof.Machine

/-!
O58 and O59: the block transfers (44_block_transfer.md R350 to R355). The loop of the machine and
`State.moved` of Safety.lean make the same bus accesses, so what a transfer leaves is said about
`State.moved`, byte by byte, on top of the three pushes.
-/

namespace Sys2Proof.Machine

section Moved

variable {s : State} {src dst : Motion} {ssss dddd : Word}

/-! The bytes of a block transfer. -/

/-- One byte more: a read at its source address, then a write at its destination address. -/
theorem State.moved_succ (k : Nat) :
    s.moved src dst ssss dddd (k + 1) =
      ((s.moved src dst ssss dddd k).memRead (motionAt src ssss k)).2.memWrite (motionAt dst dddd k)
        ((s.moved src dst ssss dddd k).memRead (motionAt src ssss k)).1 := rfl

@[simp] theorem State.moved_mpr (n : Nat) : (s.moved src dst ssss dddd n).mpr = s.mpr := by
  induction n with
  | zero => rfl
  | succ n ih => simp [State.moved_succ, ih]

@[simp] theorem State.moved_platform (n : Nat) :
    (s.moved src dst ssss dddd n).platform = s.platform := by
  induction n with
  | zero => rfl
  | succ n ih => simp [State.moved_succ, ih]

theorem State.moved_wf (hwf : s.mem.wf = true) (n : Nat) :
    (s.moved src dst ssss dddd n).mem.wf = true := by
  induction n with
  | zero => exact hwf
  | succ n ih => exact State.physWrite_wf _ _ _ (by simpa using ih)

/-- A byte that bytes `k` to `n - 1` are not moved onto is left as the first `k` bytes left it. -/
theorem State.peek_moved_of_ne {q : PhysAddr} {k n : Nat} (hkn : k ≤ n)
    (hq : ∀ j, k ≤ j → j < n → q ≠ s.translate (motionAt dst dddd j)) :
    (s.moved src dst ssss dddd n).peek q = (s.moved src dst ssss dddd k).peek q := by
  induction n, hkn using Nat.le_induction with
  | base => rfl
  | succ n hkn ih =>
    have hlast : q ≠ ((s.moved src dst ssss dddd n).memRead (motionAt src ssss n)).2.translate
        (motionAt dst dddd n) := by
      rw [State.translate_congr (s := s) (by simp)]
      exact hq n hkn n.lt_succ_self
    rw [State.moved_succ, State.peek_memWrite_ne _ _ hlast, State.peek_congr (State.memRead_mem _ _)]
    exact ih fun j hkj hjn => hq j hkj (Nat.lt_succ_of_lt hjn)

/-- Byte `k`, from RAM or ROM to RAM: its destination then holds what its source held. -/
theorem State.peek_moved_succ (hwf : s.mem.wf = true) (k : Nat)
    (hsource : s.isMemory (s.translate (motionAt src ssss k)) = true)
    (htarget : s.isRam (s.translate (motionAt dst dddd k)) = true) :
    (s.moved src dst ssss dddd (k + 1)).peek (s.translate (motionAt dst dddd k)) =
      (s.moved src dst ssss dddd k).peek (s.translate (motionAt src ssss k)) := by
  let u := s.moved src dst ssss dddd k
  have hu : ∀ la, u.translate la = s.translate la := State.translate_congr (by simp [u])
  have hr : ∀ la, (u.memRead (motionAt src ssss k)).2.translate la = s.translate la :=
    State.translate_congr (by simp [u])
  have hread : (u.memRead (motionAt src ssss k)).1 = u.peek (s.translate (motionAt src ssss k)) := by
    rw [u.memRead_memory, hu]
    rw [hu, State.isMemory_congr (s := s) (by simp [u])]
    exact hsource
  rw [State.moved_succ, ← hr, State.peek_memWrite_self]
  · exact hread
  · simpa using s.moved_wf hwf k
  · rw [hr, State.isRam_congr (s := s) (by simp)]
    exact htarget

/-- Where each byte's destination is the next byte's source, every byte moved is the first one: byte `k`
reads back what byte `k - 1` has just written. -/
theorem State.peek_moved_fill (hwf : s.mem.wf = true) {n : Nat}
    (hsource : s.isMemory (s.translate (motionAt src ssss 0)) = true)
    (htarget : ∀ k, k < n → s.isRam (s.translate (motionAt dst dddd k)) = true)
    (hchain : ∀ k, k + 1 < n →
      s.translate (motionAt src ssss (k + 1)) = s.translate (motionAt dst dddd k))
    {k : Nat} (hk : k < n) :
    (s.moved src dst ssss dddd (k + 1)).peek (s.translate (motionAt dst dddd k)) =
      s.peek (s.translate (motionAt src ssss 0)) := by
  induction k with
  | zero => exact s.peek_moved_succ hwf 0 hsource (htarget 0 hk)
  | succ k ih =>
    have hprev : k < n := k.lt_succ_self.trans hk
    have hmemory : s.isMemory (s.translate (motionAt src ssss (k + 1))) = true := by
      rw [hchain k hk]
      exact State.isMemory_of_isRam (htarget k hprev)
    rw [s.peek_moved_succ hwf (k + 1) hmemory (htarget (k + 1) hk), hchain k hk]
    exact ih hprev

end Moved

/-! The loop of the machine. -/

/-- An alternating address is in its second phase at the odd bytes. -/
theorem not_odd_eq_odd_succ (k : Nat) : (!(k % 2 == 1)) = ((k + 1) % 2 == 1) := by
  rcases Nat.mod_two_eq_zero_or_one k with h | h <;> simp [h, Nat.add_mod]

/-- From byte `k` on, the loop makes the accesses of the next `n` bytes. -/
theorem State.SameBus.blockLoop_from {s t : State} (src dst : Motion) (ssss dddd llll : Word)
    (n k : Nat) (h : State.SameBus (s.moved src dst ssss dddd k) t) :
    State.SameBus (s.moved src dst ssss dddd (k + n))
      (State.blockLoop src dst n t (motionBase src ssss k) (motionBase dst dddd k) llll
        (k % 2 == 1)) := by
  induction n generalizing k t llll with
  | zero => exact h
  | succ n ih =>
    obtain ⟨hbyte, hread⟩ := h.read (motionAt src ssss k)
    have hnext := hread.write (motionAt dst dddd k) (t.memRead (motionAt src ssss k)).1
    rw [hbyte, ← State.moved_succ] at hnext
    rw [State.blockLoop, motionAddr_motionBase, motionAddr_motionBase, motionNext_motionBase,
      motionNext_motionBase, not_odd_eq_odd_succ, ← Nat.add_assoc, Nat.add_right_comm, hbyte]
    exact ih (llll - 1) (k + 1) ⟨hnext.mem, hnext.platform, hnext.mpr, hnext.io⟩

theorem State.SameBus.blockLoop {s t : State} (h : State.SameBus s t) (src dst : Motion)
    (ssss dddd llll : Word) (n : Nat) :
    State.SameBus (s.moved src dst ssss dddd n)
      (State.blockLoop src dst n t ssss dddd llll false) := by
  have hloop := State.SameBus.blockLoop_from src dst ssss dddd llll n 0 h
  rw [motionBase_zero, motionBase_zero, Nat.zero_add] at hloop
  exact hloop

theorem State.blockLoop_sp (src dst : Motion) (n : Nat) (s : State) (a b c : Word) (alt : Bool) :
    (State.blockLoop src dst n s a b c alt).sp = s.sp := by
  obtain ⟨sh, dh, lh, mem, io, h⟩ := State.blockLoop_eq src dst n s a b c alt
  rw [h]

/-! The pushes and the pulls. -/

/-- A push is a write at `$2100 + S`, as the bus sees it. -/
theorem State.SameBus.push {s t : State} (h : State.SameBus s t) {sp : Byte} (hsp : t.sp = sp)
    (v : Byte) : State.SameBus (s.memWrite (stackAddr sp) v) (t.push v) := by
  subst hsp
  obtain ⟨hmem, hplat, hmpr, hio⟩ := h.write (stackAddr t.sp) v
  exact ⟨hmem, hplat, hmpr, hio⟩

/-- A pull is a read one above S, as the bus sees it. -/
theorem State.SameBus.pull {s t : State} (h : State.SameBus s t) {sp : Byte} (hsp : t.sp + 1 = sp) :
    t.pull.1 = (s.memRead (stackAddr sp)).1 ∧
      State.SameBus (s.memRead (stackAddr sp)).2 t.pull.2 := by
  subst hsp
  have hs : State.SameBus s (t.setSp (t.sp + 1)) := ⟨h.mem, h.platform, h.mpr, h.io⟩
  exact hs.read _

/-- The state after Y, A and X are pushed (R350): the three writes in their order. -/
def State.savedRegisters (s : State) : State :=
  ((s.memWrite (stackAddr s.sp) s.y).memWrite (stackAddr (s.sp - 1)) s.a).memWrite
    (stackAddr (s.sp - 2)) s.x

@[simp] theorem State.savedRegisters_mpr (s : State) : s.savedRegisters.mpr = s.mpr := by
  simp [State.savedRegisters]

@[simp] theorem State.savedRegisters_platform (s : State) :
    s.savedRegisters.platform = s.platform := by
  simp [State.savedRegisters]

theorem State.savedRegisters_wf {s : State} (h : s.mem.wf = true) :
    s.savedRegisters.mem.wf = true :=
  State.physWrite_wf _ _ _ (State.physWrite_wf _ _ _ (s.physWrite_wf _ _ h))

theorem State.translate_savedRegisters (s : State) (la : Word) :
    s.savedRegisters.translate la = s.translate la :=
  State.translate_congr s.savedRegisters_mpr la

/-- The three bytes lie where the entry of an interrupt would push a word and a status byte. -/
theorem State.savedRegisters_pushedBytes (s : State) :
    PushedBytes s s.savedRegisters [s.y, s.a, s.x] := by
  simpa [State.pushedFrame, State.savedRegisters] using
    s.pushedFrame_pushedBytes (joinBytes s.y s.a) s.x

/-- The pushes of a block transfer are those three writes, and S is three less. -/
theorem State.savedRegisters_sameBus (s : State) :
    State.SameBus s.savedRegisters (((s.clearT.push s.y).push s.a).push s.x) := by
  have hy := s.clearT_sameBus.push rfl s.y
  have ha := hy.push (State.push_sp s.clearT s.y) s.a
  refine ha.push ?_ s.x
  rw [State.push_sp, State.push_sp, State.clearT_sp]
  bv_omega

/-! The whole instruction. -/

/-- A block transfer, written field by field: the pushes, the bytes, the pulls (R350). -/
theorem State.blockTransfer_eq_moved (s : State) (src dst : Motion) (ssss dddd llll : Word) :
    let m := s.savedRegisters.moved src dst ssss dddd (blockCount llll)
    let x := m.memRead (stackAddr (s.sp - 2))
    let a := x.2.memRead (stackAddr (s.sp - 1))
    let y := a.2.memRead (stackAddr s.sp)
    ∃ sh dh lh, s.blockTransfer src dst ssss dddd llll = { s with
      a := a.1, x := x.1, y := y.1, p := s.p.fetched, pc := s.pc + 7
      sh := sh, dh := dh, lh := lh, mem := m.mem, io := y.2.io } := by
  intro m x a y
  let pushed := ((s.clearT.push s.y).push s.a).push s.x
  let loop := State.blockLoop src dst (blockCount llll) (pushed.loadBlockRegs ssss dddd llll)
    ssss dddd llll false
  obtain ⟨hpmem, hpplat, hpmpr, hpio⟩ := s.savedRegisters_sameBus
  have hpushed : State.SameBus s.savedRegisters (pushed.loadBlockRegs ssss dddd llll) :=
    ⟨hpmem, hpplat, hpmpr, hpio⟩
  have hloop : State.SameBus m loop := hpushed.blockLoop src dst ssss dddd llll _
  have hsp : loop.sp = s.sp - 3 := by
    rw [State.blockLoop_sp]
    simp only [pushed, State.loadBlockRegs_sp, State.push_sp, State.clearT_sp]
    bv_omega
  obtain ⟨hx, hbusx⟩ := hloop.pull (sp := s.sp - 2) (by rw [hsp]; bv_omega)
  obtain ⟨ha, hbusa⟩ := hbusx.pull (sp := s.sp - 1) (by rw [State.pull_sp, hsp]; bv_omega)
  obtain ⟨hy, hbusy⟩ := hbusa.pull (sp := s.sp) (by
    rw [State.pull_sp, State.pull_sp, hsp]; bv_omega)
  obtain ⟨a', x', y', sh, dh, lh, mem, io, heq⟩ := s.blockTransfer_eq src dst ssss dddd llll
  obtain rfl : x' = x.1 := (congrArg State.x heq).symm.trans hx
  obtain rfl : a' = a.1 := (congrArg State.a heq).symm.trans ha
  obtain rfl : y' = y.1 := (congrArg State.y heq).symm.trans hy
  obtain rfl : io = y.2.io := (congrArg State.io heq).symm.trans hbusy.io
  obtain rfl : mem = m.mem := (congrArg State.mem heq).symm.trans
    (hbusy.mem.trans (by simp only [State.memRead_mem]))
  exact ⟨sh, dh, lh, heq⟩

/-- What each of the five executes: the motions are those of its mnemonic (R351 to R355). -/
theorem exec_block_of_form {i : Instr} {src dst : Motion} {ssss dddd llll : Word} (s : State)
    (hform : i.form = .blk ssss dddd llll) (hname : blockMotions i.mnemonic = some (src, dst)) :
    exec i s = .next (s.blockTransfer src dst ssss dddd llll) := by
  cases i with
  | tii _ _ _ | tdd _ _ _ | tin _ _ _ | tia _ _ _ | tai _ _ _ => cases hform; cases hname; rfl
  | _ => cases hform

/-- The motions as R351 to R355 list them. -/
theorem blockMotions_of_listed {m : Mnemonic} {src dst : Motion}
    (h : (m = .tii ∧ src = .increment ∧ dst = .increment) ∨
      (m = .tdd ∧ src = .decrement ∧ dst = .decrement) ∨
      (m = .tin ∧ src = .increment ∧ dst = .fixed) ∨
      (m = .tia ∧ src = .increment ∧ dst = .alternate) ∨
      (m = .tai ∧ src = .alternate ∧ dst = .increment)) :
    blockMotions m = some (src, dst) := by
  obtain ⟨rfl, rfl, rfl⟩ | ⟨rfl, rfl, rfl⟩ | ⟨rfl, rfl, rfl⟩ | ⟨rfl, rfl, rfl⟩ | ⟨rfl, rfl, rfl⟩ := h
  all_goals rfl

/-! What memory holds after the pushes and the bytes. -/

section AfterPushes

variable {s : State} {src dst : Motion} {ssss dddd : Word} {n : Nat}

/-- The bytes that are neither a saved register's nor a destination are as before the transfer. -/
theorem State.peek_savedRegisters_moved {q : PhysAddr}
    (hdest : ∀ k, k < n → q ≠ s.translate (motionAt dst dddd k))
    (hslots : ∀ j, j < 3 → q ≠ s.stackSlot (BitVec.ofNat 8 j)) :
    (s.savedRegisters.moved src dst ssss dddd n).peek q = s.peek q := by
  obtain ⟨hframe, -⟩ := s.savedRegisters_pushedBytes
  refine (State.peek_moved_of_ne n.zero_le fun k _ hk => ?_).trans (hframe q hslots)
  rw [s.translate_savedRegisters]
  exact hdest k hk

/-- A saved register that no byte is moved onto is pulled as it was pushed, whatever was read before. -/
theorem State.memRead_savedRegister {r : State} {j : Nat}
    (hmem : r.mem = (s.savedRegisters.moved src dst ssss dddd n).mem)
    (hplat : r.platform = s.platform) (hmpr : r.mpr = s.mpr) (hwf : s.mem.wf = true) (hj : j < 3)
    (hram : s.isRam (s.stackSlot (BitVec.ofNat 8 j)) = true)
    (hdest : ∀ k, k < n → s.translate (motionAt dst dddd k) ≠ s.stackSlot (BitVec.ofNat 8 j)) :
    (r.memRead (stackAddr (s.sp - BitVec.ofNat 8 j))).1 = [s.y, s.a, s.x].getD j 0 := by
  have hslot : r.translate (stackAddr (s.sp - BitVec.ofNat 8 j)) =
      s.stackSlot (BitVec.ofNat 8 j) := State.translate_congr hmpr _
  have hmemory : r.isMemory (r.translate (stackAddr (s.sp - BitVec.ofNat 8 j))) = true := by
    rw [hslot, State.isMemory_congr hplat]
    exact State.isMemory_of_isRam hram
  have hkept : (s.savedRegisters.moved src dst ssss dddd n).peek (s.stackSlot (BitVec.ofNat 8 j)) =
      s.savedRegisters.peek (s.stackSlot (BitVec.ofNat 8 j)) :=
    State.peek_moved_of_ne n.zero_le fun k _ hk => by
      rw [s.translate_savedRegisters]
      exact (hdest k hk).symm
  obtain ⟨-, hpushed⟩ := s.savedRegisters_pushedBytes
  rw [r.memRead_memory _ hmemory, hslot, State.peek_congr hmem, hkept, hpushed hwf j hj, if_pos hram]

/-- A destination that no later byte goes to keeps its byte to the end. -/
theorem State.peek_savedRegisters_moved_of_last {k : Nat} (hk : k < n)
    (hlater : ∀ j, k < j → j < n →
      s.translate (motionAt dst dddd j) ≠ s.translate (motionAt dst dddd k)) :
    (s.savedRegisters.moved src dst ssss dddd n).peek (s.translate (motionAt dst dddd k)) =
      (s.savedRegisters.moved src dst ssss dddd (k + 1)).peek
        (s.translate (motionAt dst dddd k)) :=
  State.peek_moved_of_ne (Nat.succ_le_of_lt hk) fun j hkj hjn => by
    rw [s.translate_savedRegisters]
    exact (hlater j hkj hjn).symm

/-- A byte that is moved from where no push and no earlier byte went, onto where no later byte goes. -/
theorem State.peek_savedRegisters_moved_copy (hwf : s.mem.wf = true) {k : Nat} (hk : k < n)
    (hsource : s.isMemory (s.translate (motionAt src ssss k)) = true)
    (htarget : s.isRam (s.translate (motionAt dst dddd k)) = true)
    (hearlier : ∀ j, j < k → s.translate (motionAt dst dddd j) ≠ s.translate (motionAt src ssss k))
    (hslots : ∀ j, j < 3 → s.translate (motionAt src ssss k) ≠ s.stackSlot (BitVec.ofNat 8 j))
    (hlater : ∀ j, k < j → j < n →
      s.translate (motionAt dst dddd j) ≠ s.translate (motionAt dst dddd k)) :
    (s.savedRegisters.moved src dst ssss dddd n).peek (s.translate (motionAt dst dddd k)) =
      s.peek (s.translate (motionAt src ssss k)) := by
  have hmoved := State.peek_moved_succ (src := src) (dst := dst) (ssss := ssss) (dddd := dddd)
    (State.savedRegisters_wf hwf) k
  rw [s.translate_savedRegisters, s.translate_savedRegisters,
    State.isMemory_congr s.savedRegisters_platform, State.isRam_congr s.savedRegisters_platform]
    at hmoved
  exact ((State.peek_savedRegisters_moved_of_last hk hlater).trans (hmoved hsource htarget)).trans
    (State.peek_savedRegisters_moved (fun j hj => (hearlier j hj).symm) hslots)

/-- The fill by overlap: the first byte, from where no push went, is at every destination. -/
theorem State.peek_savedRegisters_moved_fill (hwf : s.mem.wf = true)
    (hsource : s.isMemory (s.translate (motionAt src ssss 0)) = true)
    (hslots : ∀ j, j < 3 → s.translate (motionAt src ssss 0) ≠ s.stackSlot (BitVec.ofNat 8 j))
    (htarget : ∀ k, k < n → s.isRam (s.translate (motionAt dst dddd k)) = true)
    (hchain : ∀ k, k + 1 < n →
      s.translate (motionAt src ssss (k + 1)) = s.translate (motionAt dst dddd k))
    (hdistinct : ∀ j k, j < k → k < n →
      s.translate (motionAt dst dddd j) ≠ s.translate (motionAt dst dddd k))
    {k : Nat} (hk : k < n) :
    (s.savedRegisters.moved src dst ssss dddd n).peek (s.translate (motionAt dst dddd k)) =
      s.peek (s.translate (motionAt src ssss 0)) := by
  have hfill := State.peek_moved_fill (src := src) (dst := dst) (ssss := ssss) (dddd := dddd) (n := n)
    (State.savedRegisters_wf hwf)
  simp only [s.translate_savedRegisters, State.isMemory_congr s.savedRegisters_platform,
    State.isRam_congr s.savedRegisters_platform] at hfill
  obtain ⟨hframe, -⟩ := s.savedRegisters_pushedBytes
  have hlater : ∀ j, k < j → j < n →
      s.translate (motionAt dst dddd j) ≠ s.translate (motionAt dst dddd k) :=
    fun j hkj hjn => (hdistinct k j hkj hjn).symm
  exact ((State.peek_savedRegisters_moved_of_last hk hlater).trans
    (hfill hsource htarget hchain hk)).trans (hframe _ hslots)

end AfterPushes

/-- Settles O58: the accesses are those of `State.moved` between three pushes and three pulls; the frame
is that of the writes, and each pull reads a pushed byte back. -/
theorem blockTransferResult : Obligations.BlockTransferResult := by
  intro i src dst ssss dddd llll s hform hlisted n w m x a y
  obtain ⟨sh, dh, lh, heq⟩ := s.blockTransfer_eq_moved src dst ssss dddd llll
  refine ⟨sh, dh, lh, ?next, fun q hdest hslots => ?frame, fun hwf hram hclear => ?registers⟩
  case next =>
    rw [exec_block_of_form s hform (blockMotions_of_listed hlisted), heq]
    rfl
  case frame => exact State.peek_savedRegisters_moved hdest hslots
  case registers =>
    have hpull : ∀ (r : State) (j : Nat), j < 3 → r.mem = m.mem → r.platform = s.platform →
        r.mpr = s.mpr → (r.memRead (stackAddr (s.sp - BitVec.ofNat 8 j))).1 =
          [s.y, s.a, s.x].getD j 0 := fun r j hj hmem hplat hmpr =>
      State.memRead_savedRegister hmem hplat hmpr hwf hj (hram j hj) fun k hk => hclear j k hj hk
    have hmplat : m.platform = s.platform := by simp [m, w]
    have hmmpr : m.mpr = s.mpr := by simp [m, w]
    have hx := hpull m 2 (by decide) rfl hmplat hmmpr
    have ha := hpull x.2 1 (by decide) (by simp [x]) (by simp [x, hmplat]) (by simp [x, hmmpr])
    have hy := hpull a.2 0 (by decide) (by simp [a, x]) (by simp [a, x, hmplat])
      (by simp [a, x, hmmpr])
    rw [BitVec.ofNat_eq_ofNat, BitVec.sub_zero] at hy
    exact ⟨ha, hx, hy⟩

/-- Settles O59: a byte is at its destination from its own write to the end, since no later byte goes
there; the fill is by induction on the bytes. -/
theorem blockTransferCopies : Obligations.BlockTransferCopies := by
  intro i src dst ssss dddd llll s hform hlisted n from_ to_ unsaved hwf
  obtain ⟨sh, dh, lh, heq⟩ := s.blockTransfer_eq_moved src dst ssss dddd llll
  refine ⟨_, exec_block_of_form s hform (blockMotions_of_listed hlisted), ?copy, ?fill⟩
  case copy =>
    intro k hk hsource htarget hearlier hslots hlater
    rw [heq]
    exact State.peek_savedRegisters_moved_copy hwf hk hsource htarget hearlier hslots hlater
  case fill =>
    intro hsource hslots htarget hchain hdistinct k hk
    rw [heq]
    exact State.peek_savedRegisters_moved_fill hwf hsource hslots htarget hchain hdistinct hk

end Sys2Proof.Machine

/-!
O48 and O49: the relative branches (45_branch.md R370 to R381). What a branch executes follows from its format
and its mnemonic, as one of two shapes; their targets in the words of 30_encoding.md R160 and R169 are then
read as whole numbers modulo 65536.
-/

namespace Sys2Proof.Machine

/-! The target. -/

theorem ofInt_toNat_add (pc : Word) (n : Nat) :
    BitVec.ofInt 16 (pc.toNat + n) = pc + BitVec.ofNat 16 n := by
  rw [BitVec.ofInt_add, BitVec.ofInt_natCast, BitVec.ofInt_natCast, BitVec.ofNat_toNat,
    BitVec.setWidth_eq]

/-- A relative target in whole numbers; the base is `n` bytes behind the opcode. -/
theorem relTarget_eq_ofInt (pc : Word) (n : Nat) (rr : Byte) :
    relTarget (pc + BitVec.ofNat 16 n) rr = BitVec.ofInt 16 (pc.toNat + n + rr.toInt) := by
  rw [BitVec.ofInt_add, ofInt_toNat_add]
  rfl

/-- Where a branch of `n` bytes goes on, taken or not. -/
theorem branchPc_eq_ofInt (pc : Word) (n : Nat) (rr : Byte) (taken : Prop) [Decidable taken] :
    (if taken then relTarget (pc + BitVec.ofNat 16 n) rr else pc + BitVec.ofNat 16 n) =
      BitVec.ofInt 16 (pc.toNat + n + if taken then rr.toInt else 0) := by
  split
  · exact relTarget_eq_ofInt pc n rr
  · rw [Int.add_zero, ofInt_toNat_add]

/-! The nine relative branches. -/

/-- BSR apart, an instruction with a relative operand branches where its condition holds, BRA always. -/
theorem exec_branch_of_form {i : Instr} {m : Mnemonic} {rr : Byte} (s : State)
    (hform : i.form = .rel rr) (hname : i.mnemonic = m) (hm : m ≠ .bsr) :
    exec i s = .next (s.branchIf (m == .bra || branchTaken m (.rel rr) s) rr) := by
  subst hname
  cases i with
  | bcc _ | bcs _ | bne _ | beq _ | bpl _ | bmi _ | bvc _ | bvs _ | bra _ => cases hform; rfl
  | bsr _ => exact absurd rfl hm
  | _ => cases hform

/-- Settles O48: the condition is that of the mnemonic, and the shape gives the next state. -/
theorem branchResult : Obligations.BranchResult := by
  intro i rr taken s hform hop t
  obtain ⟨m, hname, hm, htaken⟩ : ∃ m, i.mnemonic = m ∧ m ≠ .bsr ∧
      taken = (m == .bra || branchTaken m (.rel rr) s) := by
    obtain ⟨hname, htaken⟩ | ⟨hname, htaken⟩ | ⟨hname, htaken⟩ | ⟨hname, htaken⟩ |
      ⟨hname, htaken⟩ | ⟨hname, htaken⟩ | ⟨hname, htaken⟩ | ⟨hname, htaken⟩ | ⟨hname, htaken⟩ := hop
    all_goals exact ⟨_, hname, by decide, htaken⟩
  refine ⟨?_, .of_mem rfl⟩
  rw [exec_branch_of_form s hform hname hm, ← htaken, s.branchIf_eq]
  exact congrArg (fun pc => Host.Outcome.next { s with p := s.p.fetched, pc := pc })
    (branchPc_eq_ofInt s.pc 2 rr (taken = true))

/-! The bit branches. -/

/-- BBRi branches where bit i is 0, BBSi where it is 1 (R371, R372). -/
theorem exec_bitBranch_of_form {i : Instr} {k : Fin 8} {want : Bool} {zz rr : Byte} (s : State)
    (hform : i.form = .zpRel zz rr)
    (hop : (i.mnemonic = .bbr k ∧ want = false) ∨ (i.mnemonic = .bbs k ∧ want = true)) :
    exec i s = .next (s.branchOnBit k want zz rr) := by
  cases i with
  | bbr0 _ _ | bbr1 _ _ | bbr2 _ _ | bbr3 _ _ | bbr4 _ _ | bbr5 _ _ | bbr6 _ _ | bbr7 _ _
  | bbs0 _ _ | bbs1 _ _ | bbs2 _ _ | bbs3 _ _ | bbs4 _ _ | bbs5 _ _ | bbs6 _ _ | bbs7 _ _ =>
    cases hform
    obtain ⟨⟨⟩, rfl⟩ | ⟨⟨⟩, rfl⟩ := hop
    rfl
  | _ => cases hform

/-- Settles O49: the shape reads the byte once, and its target is that of a three-byte branch. -/
theorem bitBranchResult : Obligations.BitBranchResult := by
  intro i k want zz rr s hform hop m t
  refine ⟨?_, .of_mem rfl⟩
  rw [exec_bitBranch_of_form s hform hop, s.branchOnBit_eq]
  simp only [beq_iff_eq]
  exact congrArg (fun pc => Host.Outcome.next { s with p := s.p.fetched, pc := pc, io := m.2.io })
    (branchPc_eq_ofInt s.pc 3 rr (m.1.getLsbD k.val = want))

end Sys2Proof.Machine

/-!
O20 and O51 to O54: the subroutine and stack instructions (46_subroutine_stack.md R400 to R411). The shapes
push and pull through the bus; what a pull answers after a push is what `PushedBytes` says of the stack slots,
as long as the slots keep their bytes.
-/

namespace Sys2Proof.Machine

/-! Calls. -/

/-- The two bytes of a pushed word, the high byte first (20_memory.md R108). -/
theorem State.pushedWord_pushedBytes (s : State) (w : Word) :
    PushedBytes s
      ((s.memWrite (stackAddr s.sp) (hiByte w)).memWrite (stackAddr (s.sp - 1)) (loByte w))
      [hiByte w, loByte w] := by
  have hhi := PushedBytes.nil.concat (s := s) (by decide) rfl rfl id (hiByte w)
  have hlo := hhi.concat (by simp) (by simp) (by simp) (s.physWrite_wf _ _) (loByte w)
  simpa using hlo

/-- Settles O51: both are the shape of a call, BSR's target in the words of R160. -/
theorem callResult : Obligations.CallResult := by
  intro s rr hhll called bsr jsr
  have hcall (ret target : Word) : (.next (s.call ret target) : Result) =
      .next (called ret target) := congrArg Host.Outcome.next (s.call_eq ret target)
  have htarget : relTarget (s.pc + 2) rr = BitVec.ofInt 16 (s.pc.toNat + 2 + rr.toInt) :=
    relTarget_eq_ofInt s.pc 2 rr
  refine ⟨?_, s.pushedWord_pushedBytes _, hcall _ _, s.pushedWord_pushedBytes _⟩
  rw [exec_bsr, htarget]
  exact hcall _ _

/-! Pushes. -/

/-- A status byte is its seven flags and its bit 4 (10_state.md R36). -/
theorem toByte_flagsOfByte (v : Byte) : (flagsOfByte v).toByte (v.getLsbD 4) = v := by
  revert v
  decide

/-- A push instruction whose byte is known: the whole next state, and the frame of its one store. -/
theorem State.pushInstr_next (s : State) {f : State → Byte} {v : Byte} (h : f s.clearT = v) :
    let w := s.memWrite (stackAddr s.sp) v
    let t := { s with
      p := s.p.fetched, sp := s.sp - 1, pc := s.pc + 1, mem := w.mem, io := w.io }
    s.pushInstr f = t ∧ StoredByte s t (s.translate (stackAddr s.sp)) v := by
  subst h
  exact ⟨s.pushInstr_eq f, .of_memWrite rfl rfl rfl rfl⟩

/-- Settles O52: the shape stores the byte of each mnemonic; PHP's is fixed by its eight bits. -/
theorem pushResult : Obligations.PushResult := by
  intro i v s hop w t
  obtain ⟨f, hexec, hv⟩ : ∃ f, exec i s = .next (s.pushInstr f) ∧ f s.clearT = v := by
    obtain ⟨rfl, rfl⟩ | ⟨rfl, rfl⟩ | ⟨rfl, rfl⟩ | ⟨rfl, h7, h6, h5, h4, h3, h2, h1, h0⟩ := hop
    · exact ⟨_, exec_pha s, rfl⟩
    · exact ⟨_, exec_phx s, rfl⟩
    · exact ⟨_, exec_phy s, rfl⟩
    · have hflags : flagsOfByte v = s.p.fetched := by
        rw [flagsOfByte, h7, h6, h5, h3, h2, h1, h0]
      refine ⟨_, exec_php s, ?_⟩
      rw [← toByte_flagsOfByte v, hflags, h4]
      rfl
  obtain ⟨hnext, hstored⟩ := s.pushInstr_next hv
  exact ⟨hexec.trans (congrArg Host.Outcome.next hnext), hstored⟩

/-! Pulls and returns. -/

/-- Settles O53: the shape reads one byte above S, and each mnemonic puts it where R406 to R409 say. -/
theorem pullResult : Obligations.PullResult := by
  intro s m f nz
  have hpull (g : State → Byte → State) : (.next (s.pullInstr g) : Result) =
      .next ((g { s with p := s.p.fetched, sp := s.sp + 1, io := m.2.io } m.1).advance 1) :=
    congrArg Host.Outcome.next (s.pullInstr_eq g)
  exact ⟨hpull State.loadA, hpull State.loadX, hpull State.loadY,
    hpull fun u b => u.setP (flagsOfByte b), .of_mem rfl⟩

/-- Settles O54: the two shapes of a return, which read the stack and write no byte. -/
theorem returnResult : Obligations.ReturnResult := by
  intro s m1 m2 m3 rts rti
  exact ⟨congrArg Host.Outcome.next s.returnFromSubroutine_eq, .of_mem rfl,
    congrArg Host.Outcome.next s.returnFromInterrupt_eq, .of_mem rfl⟩

/-! Return from an interrupt. -/

/-- A pushed byte in RAM is read back in any state that keeps the mapping, the platform and the byte. -/
theorem PushedBytes.memRead {s t r : State} {bytes : List Byte} (h : PushedBytes s t bytes)
    (hwf : s.mem.wf = true) {k : Nat} (hk : k < bytes.length)
    (hram : s.isRam (s.stackSlot (BitVec.ofNat 8 k)) = true)
    (hmpr : r.mpr = s.mpr) (hplat : r.platform = s.platform)
    (hkept : r.peek (s.stackSlot (BitVec.ofNat 8 k)) = t.peek (s.stackSlot (BitVec.ofNat 8 k))) :
    (r.memRead (stackAddr (s.sp - BitVec.ofNat 8 k))).1 = bytes.getD k 0 := by
  obtain ⟨-, hpushed⟩ := h
  have hslot : r.translate (stackAddr (s.sp - BitVec.ofNat 8 k)) =
      s.stackSlot (BitVec.ofNat 8 k) := State.translate_congr hmpr _
  have hmemory : r.isMemory (s.stackSlot (BitVec.ofNat 8 k)) = true := by
    rw [State.isMemory_congr hplat]
    exact State.isMemory_of_isRam hram
  rw [r.memRead_memory _ (hslot ▸ hmemory), hslot, hkept, hpushed hwf k hk, if_pos hram]

/-- Settles O20: RTI's three reads find the status byte and the return address that the entry pushed. -/
theorem entryThenReturn : Obligations.EntryThenReturn := by
  intro s u vector ret b hwf hram e hsp hmpr hplat hkept
  have hread {r : State} (hr : r.mem = u.mem) (hrmpr : r.mpr = u.mpr)
      (hrplat : r.platform = u.platform) (k : Nat) (hk : k < 3) :
      (r.memRead (stackAddr (s.sp - BitVec.ofNat 8 k))).1 =
        [hiByte ret, loByte ret, s.p.toByte b].getD k 0 :=
    (s.entered_pushedBytes vector ret b).memRead hwf hk (hram k hk) (hrmpr.trans hmpr)
      (hrplat.trans hplat) ((State.peek_congr hr _).trans (hkept k hk))
  have husp : u.sp = s.sp - 3 := hsp
  have hslot1 : u.sp + 1 = s.sp - BitVec.ofNat 8 2 := by rw [husp]; bv_omega
  have hslot2 : u.sp + 2 = s.sp - BitVec.ofNat 8 1 := by rw [husp]; bv_omega
  have hslot3 : u.sp + 3 = s.sp - BitVec.ofNat 8 0 := by rw [husp]; bv_omega
  rw [exec_rti, u.returnFromInterrupt_eq, hslot1, hslot2, hslot3]
  refine ⟨_, rfl, ?pc, ?sp, ?flags, rfl, rfl, rfl, .of_mem rfl⟩
  case pc =>
    dsimp only
    rw [hread (by simp) (by simp) (by simp) 0 (by decide),
      hread (by simp) (by simp) (by simp) 1 (by decide)]
    exact joinBytes_hiByte_loByte ret
  case sp => exact BitVec.sub_zero _
  case flags =>
    dsimp only
    rw [hread rfl rfl rfl 2 (by decide)]
    exact flagsOfByte_toByte s.p b

end Sys2Proof.Machine

/-!
O14: canonical memories that read the same are equal (log 1). A canonical list shows its first address by
what reads there: no smaller address is listed, and no listed byte is the one that unlisted addresses have.
-/

namespace Sys2Proof.Machine

theorem Memory.read_head (a : Nat) (v : Byte) (m : Memory) : Memory.read ((a, v) :: m) a = v :=
  if_pos rfl

/-- Below its first address a canonical memory lists nothing. -/
theorem Memory.read_below_head {a : Nat} {v : Byte} {m : Memory} (h : Memory.wf ((a, v) :: m) = true)
    {k : Nat} (hk : k < a) : Memory.read ((a, v) :: m) k = Config.unlistedByte := by
  obtain ⟨-, hlt, -⟩ := (Memory.wf_cons a v m).1 h
  refine Memory.read_eq_unlisted _ k fun c hc => ?_
  rcases List.mem_cons.1 hc with rfl | hc
  · exact hk
  · exact hk.trans (hlt c hc)

/-- The first address of a canonical memory is not above that of one that reads the same. -/
theorem Memory.head_le_of_read_eq {a b : Nat} {v w : Byte} {m n : Memory}
    (hm : Memory.wf ((a, v) :: m) = true) (hn : Memory.wf ((b, w) :: n) = true)
    (h : ∀ k, Memory.read ((a, v) :: m) k = Memory.read ((b, w) :: n) k) : b ≤ a := by
  by_contra hlt
  obtain ⟨hv, -, -⟩ := (Memory.wf_cons a v m).1 hm
  have hread := h a
  rw [Memory.read_head, Memory.read_below_head hn (by omega)] at hread
  exact hv hread

/-- A memory with an entry does not read as the empty one. -/
theorem Memory.not_read_eq_nil {a : Nat} {v : Byte} {m : Memory} (hm : Memory.wf ((a, v) :: m) = true) :
    ¬ ∀ k, Memory.read ((a, v) :: m) k = Memory.read [] k := by
  intro h
  obtain ⟨hv, -, -⟩ := (Memory.wf_cons a v m).1 hm
  exact hv ((Memory.read_head a v m).symm.trans (h a))

/-- Below equal first entries the tails read the same: at the first address both are unlisted. -/
theorem Memory.tail_read_eq {a : Nat} {v : Byte} {m n : Memory} (hm : ∀ c ∈ m, a < c.1)
    (hn : ∀ c ∈ n, a < c.1) (h : ∀ k, Memory.read ((a, v) :: m) k = Memory.read ((a, v) :: n) k)
    (k : Nat) : Memory.read m k = Memory.read n k := by
  by_cases hk : a = k
  · subst hk
    rw [Memory.read_eq_unlisted m a hm, Memory.read_eq_unlisted n a hn]
  · simpa only [Memory.read_cons, if_neg hk] using h k

/-- Settles O14: by induction on the lists, whose first entries are equal. -/
theorem canonicalMemoryDetermined : Obligations.CanonicalMemoryDetermined := by
  intro m
  induction m with
  | nil =>
    intro n _ hn h
    cases n with
    | nil => rfl
    | cons c n => exact absurd (fun k => (h k).symm) (Memory.not_read_eq_nil hn)
  | cons c m ih =>
    obtain ⟨a, v⟩ := c
    intro n hm hn h
    cases n with
    | nil => exact absurd h (Memory.not_read_eq_nil hm)
    | cons d n =>
      obtain ⟨b, w⟩ := d
      obtain rfl : a = b := le_antisymm (Memory.head_le_of_read_eq hn hm fun k => (h k).symm)
        (Memory.head_le_of_read_eq hm hn h)
      obtain rfl : v = w := by simpa only [Memory.read_head] using h a
      obtain ⟨-, hmlt, hmwf⟩ := (Memory.wf_cons a v m).1 hm
      obtain ⟨-, hnlt, hnwf⟩ := (Memory.wf_cons a v n).1 hn
      rw [ih n hmwf hnwf (Memory.tail_read_eq hmlt hnlt h)]

end Sys2Proof.Machine

/-!
O9: every instruction answers (60_exceptions.md R505; 43_data_transfer.md R320; log 12). No arm of `exec` but
TMA's depends on the operands for whether there is a next state.
-/

namespace Sys2Proof.Machine

theorem exec_answers_of_wf {i : Instr} (s : State) (h : i.wf = true) : ∃ t, exec i s = .next t := by
  cases i with
  | tma mask => exact ⟨_, exec_tma_of_atMostOneBit s h⟩
  | _ => exact ⟨_, rfl⟩

/-- TMA is the one instruction with an ill-formed operand. -/
theorem eq_tma_of_not_wf {i : Instr} (h : i.wf = false) :
    ∃ mask, i = .tma mask ∧ atMostOneBit mask = false := by
  cases i with
  | tma mask => exact ⟨mask, rfl, h⟩
  | _ => cases h

/-- TMA with two or more mask bits set is refused by name. -/
theorem exec_tma_of_not_atMostOneBit (s : State) {mask : Byte} (h : atMostOneBit mask = false) :
    exec (.tma mask) s = .refused (.tmaMultipleBits mask) := by
  rw [exec_tma, h]
  rfl

/-- Settles O9: the ill-formed instructions are the ones refused. -/
theorem everyInstructionAnswers : Obligations.EveryInstructionAnswers := by
  intro i s
  refine ⟨exec_answers_of_wf s, fun hwf => ?_⟩
  obtain ⟨mask, rfl, hmask⟩ := eq_tma_of_not_wf hwf
  exact ⟨mask, rfl, exec_tma_of_not_atMostOneBit s hmask⟩

end Sys2Proof.Machine

/-!
O36, O46 and O47: the bit operations and the tests (47_test.md R430 to R433, 48_control.md R452, R453). The
operations are bits of bytes; what an instruction executes follows from its format and its mnemonic.
-/

namespace Sys2Proof.Machine

/-! The operations bit by bit. -/

/-- The mask of RMBi and SMBi has bit i alone. -/
theorem getLsbD_bitMask (i : Fin 8) {k : Nat} (hk : k < 8) :
    (bitMask i).getLsbD k = decide (k = i.val) := by
  have hmask : ∀ (i k : Fin 8), (bitMask i).getLsbD k.val = decide (k.val = i.val) := by decide
  exact hmask i ⟨k, hk⟩

/-- RMBi resets bit i and keeps the others. -/
theorem getLsbD_rmbOp (i : Fin 8) (m : Byte) (p : Flags) {k : Nat} (hk : k < 8) :
    (rmbOp i m p).1.getLsbD k = if k = i.val then false else m.getLsbD k := by
  rw [rmbOp, BitVec.getLsbD_and, BitVec.getLsbD_not, getLsbD_bitMask i hk]
  by_cases h : k = i.val <;> simp [h, hk]

/-- SMBi sets bit i and keeps the others. -/
theorem getLsbD_smbOp (i : Fin 8) (m : Byte) (p : Flags) {k : Nat} (hk : k < 8) :
    (smbOp i m p).1.getLsbD k = if k = i.val then true else m.getLsbD k := by
  rw [smbOp, BitVec.getLsbD_or, getLsbD_bitMask i hk]
  by_cases h : k = i.val <;> simp [h]

theorem getLsbD_trbOp (a m : Byte) (p : Flags) {k : Nat} (hk : k < 8) :
    (trbOp a m p).1.getLsbD k = (m.getLsbD k && !a.getLsbD k) := by
  rw [trbOp, BitVec.getLsbD_and, BitVec.getLsbD_not, decide_eq_true hk, Bool.true_and]

theorem getLsbD_tsbOp (a m : Byte) (p : Flags) (k : Nat) :
    (tsbOp a m p).1.getLsbD k = (m.getLsbD k || a.getLsbD k) :=
  BitVec.getLsbD_or

/-- The flags of a test, with Z in whole numbers. -/
theorem testFlags_eq (m zeroOf : Byte) (p : Flags) : testFlags m zeroOf p = { p with
    n := m.getLsbD 7, v := m.getLsbD 6, z := decide (zeroOf.toNat = 0) } := by
  rw [testFlags, beq_zero_eq]

/-- Settles O36: one lemma for the bits of each operation, and the flags of a test for TRB and TSB. -/
theorem bitOperations : Obligations.BitOperations := fun a m p i k hk =>
  ⟨getLsbD_trbOp a m p hk, getLsbD_tsbOp a m p k, testFlags_eq m _ p, testFlags_eq m _ p,
    getLsbD_rmbOp i m p hk, getLsbD_smbOp i m p hk, rfl, rfl⟩

/-! TRB, TSB, RMBi and SMBi. -/

/-- The instructions that change bits of a byte of memory. -/
def changesBits : Mnemonic → Bool
  | .trb | .tsb | .rmb _ | .smb _ => true
  | _ => false

/-- TRB, TSB, RMBi and SMBi in every form: the effective address is that of the format. -/
theorem exec_bitOp_of_form {i : Instr} {m : Mnemonic} {ea : Ea} (s : State)
    (hform : i.form = .mem ea) (hname : i.mnemonic = m) (hm : changesBits m = true) :
    exec i s = .next (s.rmw (bitOp s.a m) ea) := by
  subst hname
  cases i with
  | trbZp _ | trbAbs _ | tsbZp _ | tsbAbs _
  | rmb0 _ | rmb1 _ | rmb2 _ | rmb3 _ | rmb4 _ | rmb5 _ | rmb6 _ | rmb7 _
  | smb0 _ | smb1 _ | smb2 _ | smb3 _ | smb4 _ | smb5 _ | smb6 _ | smb7 _ => cases hform; rfl
  | _ => cases hm

/-- Settles O46: the operation is that of the mnemonic, and the write of the shape is the one store. -/
theorem bitModifyResult : Obligations.BitModifyResult := by
  intro i ea op s hform hop e b r w t
  obtain ⟨m, hname, hm, rfl⟩ :
      ∃ m, i.mnemonic = m ∧ changesBits m = true ∧ op = bitOp s.a m := by
    obtain ⟨hname, hop⟩ | ⟨hname, hop⟩ | ⟨k, hname, hop⟩ | ⟨k, hname, hop⟩ := hop
    all_goals exact ⟨_, hname, rfl, hop⟩
  have hlength : i.length = 1 + ea.size := congrArg Form.length hform
  refine ⟨?_, .of_memWrite (u := b.2) (by simp [b, e]) (by simp [b, e]) (by simp [b, e]) rfl⟩
  rw [exec_bitOp_of_form s hform hname hm, s.rmw_eq, ← hlength]

/-! BIT and TST. -/

/-- TST in every form: the immediate and the effective address are those of the format. -/
theorem exec_tst_of_form {i : Instr} {nn : Byte} {ea : Ea} (s : State)
    (hform : i.form = .immMem nn ea) : exec i s = .next (s.testImm nn ea) := by
  cases i with
  | tstImmZp _ _ | tstImmAbs _ _ | tstImmZpX _ _ | tstImmAbsX _ _ => cases hform; rfl
  | _ => cases hform

/-- Settles O47: both are the flags of a test of the byte read, and neither shape writes. -/
theorem testResult : Obligations.TestResult := by
  intro i s tested
  refine ⟨fun src hbit hform => ⟨?bit, .of_mem rfl⟩, fun nn ea _ hform => ⟨?tst, .of_mem rfl⟩⟩
  case bit => exact exec_operand_eq s hform hbit rfl
  case tst =>
    have hlength : i.length = 2 + ea.size := congrArg Form.length hform
    rw [exec_tst_of_form s hform, s.testImm_eq, ← hlength]
    rfl

end Sys2Proof.Machine

/-!
O55: BRK (48_control.md R450, 60_exceptions.md R520) is the entry sequence on the state whose T the fetch
cleared.
-/

namespace Sys2Proof.Machine

/-- Settles O55: the entry of O19 with BRK's vector, B and return address. -/
theorem breakResult : Obligations.BreakResult := by
  intro s f t
  refine ⟨?_, f.entered_pushedBytes 0xFFF6#16 (s.pc + 2) true⟩
  rw [exec_brk, s.clearT.enterInterrupt_eq_entered]
  rfl

end Sys2Proof.Machine

/-!
O18 and O22: the interrupt sample and the NMI latch (60_exceptions.md R510 to R512). The sample is a chain of
requests in their order, each with its mask bit; the latch is written by the event of its pin alone.
-/

namespace Sys2Proof.Machine

/-! The order of the requests (R510). -/

theorem Io.select_nmi {io : Io} (h : io.nmiPending = true) (m : Bool) : io.select m = .nmi :=
  if_pos h

/-- With I = 0 and no latched edge, the requests that are enabled in their order. -/
theorem Io.select_unmasked {io : Io} (h : io.nmiPending = false) : io.select false =
    if io.tiq && !io.idr.tiqd then .timer
    else if io.pins.irq1 == .low && !io.idr.irq1d then .irq1
    else if io.pins.irq2 == .low && !io.idr.irq2d then .irq2 else .none := by
  simp only [Io.select, h, Bool.false_eq_true, if_false, Bool.not_false, Bool.and_true]

/-- A source that does not request, or is disabled. -/
theorem requests_eq_false {request disable : Bool} (h : request = false ∨ disable = true) :
    (request && !disable) = false := by
  obtain rfl | rfl := h
  · rfl
  · exact Bool.and_false request

/-- The same of a pin, which requests at L. -/
theorem pin_requests_eq_false {pin : Level} {disable : Bool} (h : pin = .high ∨ disable = true) :
    (pin == .low && !disable) = false :=
  requests_eq_false (h.imp_left fun hpin => by rw [hpin]; rfl)

theorem Io.select_timer {io : Io} (hnmi : io.nmiPending = false) (htiq : io.tiq = true)
    (henabled : io.idr.tiqd = false) : io.select false = .timer := by
  rw [Io.select_unmasked hnmi, htiq, henabled]
  rfl

/-- TIMER apart, IRQ1 is the first. -/
theorem Io.select_irq1_of_no_timer {io : Io} (hnmi : io.nmiPending = false)
    (htimer : io.tiq = false ∨ io.idr.tiqd = true) (hpin : io.pins.irq1 = .low)
    (henabled : io.idr.irq1d = false) : io.select false = .irq1 := by
  rw [Io.select_unmasked hnmi, requests_eq_false htimer, hpin, henabled]
  rfl

/-- TIMER and IRQ1 apart, IRQ2. -/
theorem Io.select_irq2_of_no_other {io : Io} (hnmi : io.nmiPending = false)
    (htimer : io.tiq = false ∨ io.idr.tiqd = true)
    (hirq1 : io.pins.irq1 = .high ∨ io.idr.irq1d = true) (hpin : io.pins.irq2 = .low)
    (henabled : io.idr.irq2d = false) : io.select false = .irq2 := by
  rw [Io.select_unmasked hnmi, requests_eq_false htimer, pin_requests_eq_false hirq1, hpin, henabled]
  rfl

/-- With no request nothing is selected, whatever I. -/
theorem Io.select_none {io : Io} (hnmi : io.nmiPending = false)
    (htimer : io.tiq = false ∨ io.idr.tiqd = true)
    (hirq1 : io.pins.irq1 = .high ∨ io.idr.irq1d = true)
    (hirq2 : io.pins.irq2 = .high ∨ io.idr.irq2d = true) (m : Bool) : io.select m = .none := by
  cases m with
  | true => exact Io.select_masked hnmi
  | false =>
    rw [Io.select_unmasked hnmi, requests_eq_false htimer, pin_requests_eq_false hirq1,
      pin_requests_eq_false hirq2]
    rfl

/-- CLI and SEI are the instructions whose sample uses the old I (R511). -/
theorem delaysI_eq (i : Instr) : delaysI i = [Mnemonic.cli, .sei].contains i.mnemonic := by
  cases i <;> rfl

/-- Settles O18: the clauses of the order one by one, and the I that the sample after an instruction uses. -/
theorem interruptSample : Obligations.InterruptSample := by
  refine ⟨fun io m => ⟨fun h => Io.select_nmi h m, ?masked, ?timer, ?irq1, ?irq2,
    fun hnmi htimer hirq1 hirq2 => Io.select_none hnmi htimer hirq1 hirq2 m⟩,
    fun i s t => ⟨fun hdelay => ?old, fun hnone => ?new⟩⟩
  case masked => rintro hnmi rfl; exact Io.select_masked hnmi
  case timer => rintro hnmi rfl htiq henabled; exact Io.select_timer hnmi htiq henabled
  case irq1 =>
    rintro hnmi rfl htimer hpin henabled
    exact Io.select_irq1_of_no_timer hnmi htimer hpin henabled
  case irq2 =>
    rintro hnmi rfl htimer hirq1 hpin henabled
    exact Io.select_irq2_of_no_other hnmi htimer hirq1 hpin henabled
  case old =>
    have hold : delaysI i = true := (delaysI_eq i).trans (List.contains_iff_mem.2 hdelay)
    rw [State.sampleAfter, if_pos hold]
    rfl
  case new =>
    have hnew : ¬ delaysI i = true := fun h =>
      hnone (List.contains_iff_mem.1 ((delaysI_eq i).symm.trans h))
    rw [State.sampleAfter, if_neg hnew]
    rfl

/-! The NMI latch (R512). -/

/-- Every event but a change of the NMI pin leaves the latch and that pin. -/
theorem Io.apply_keeps_nmi (io : Io) {ev : EnvEvent} (h : ∀ l, ev ≠ .nmiPin l) :
    (io.apply ev).nmiPending = io.nmiPending ∧ (io.apply ev).pins.nmi = io.pins.nmi := by
  cases ev with
  | nmiPin l => exact absurd rfl (h l)
  | clock n =>
    rw [show io.apply (.clock n) = io.clock n from rfl, Io.clock_eq]
    exact ⟨rfl, rfl⟩
  | irq1Pin _ | irq2Pin _ | portK _ | readGlitch | resetPulse => exact ⟨rfl, rfl⟩

/-- Where the pin ends at H, or was at L before, there is no edge. -/
theorem Io.nmiPending_of_no_edge {io : Io} {l : Level} (h : l = .high ∨ io.pins.nmi = .low) :
    (io.apply (.nmiPin l)).nmiPending = io.nmiPending := by
  have hedge : (io.pins.nmi == .high && l == .low) = false := by
    obtain rfl | hpin := h
    · exact Bool.and_false _
    · rw [hpin]; rfl
  show (io.nmiPending || (io.pins.nmi == .high && l == .low)) = io.nmiPending
  rw [hedge, Bool.or_false]

theorem Io.nmiPending_of_edge {io : Io} (h : io.pins.nmi = .high) :
    (io.apply (.nmiPin .low)).nmiPending = true := by
  show (io.nmiPending || (io.pins.nmi == .high && true)) = true
  rw [h]
  exact Bool.or_true _

/-- After the schedule has ended the environment leaves the latch and the pins (log 18). -/
theorem Io.elapse_keeps_nmi {io : Io} (h : io.schedule = []) :
    io.elapse.nmiPending = io.nmiPending ∧ io.elapse.pins.nmi = io.pins.nmi := by
  rw [Io.elapse_of_schedule_nil h, Io.idleClock_eq]
  exact ⟨rfl, rfl⟩

/-- Settles O22: the edge, the two events that are none, and everything else. -/
theorem nmiEdgeLatch : Obligations.NmiEdgeLatch := fun io =>
  ⟨Io.nmiPending_of_edge, fun hlow => Io.nmiPending_of_no_edge (.inr hlow),
    Io.nmiPending_of_no_edge (.inl rfl), fun _ => rfl, fun _ => io.apply_keeps_nmi,
    Io.elapse_keeps_nmi⟩

end Sys2Proof.Machine

/-!
O23: the timer counts down (60_exceptions.md R530, R531). Ticks that the counter holds only count; the tick
after them borrows; every 1024th period of the clock is a tick.
-/

namespace Sys2Proof.Machine

/-- Ticks one after the other, the last one last. -/
theorem Io.ticks_succ (n : Nat) (io : Io) : Io.ticks (n + 1) io = (Io.ticks n io).tick := by
  induction n generalizing io with
  | zero => rfl
  | succ n ih => exact ih io.tick

/-- No more ticks than the counter holds: the counter goes down by as many, and nothing else changes. -/
theorem Io.ticks_of_le_counter (io : Io) {k : Nat} (h : k ≤ io.timer.counter.toNat) :
    Io.ticks k io =
      { io with timer := { io.timer with counter := io.timer.counter - BitVec.ofNat 7 k } } := by
  induction k with
  | zero => rw [BitVec.sub_zero]; rfl
  | succ k ih =>
    have hleft : io.timer.counter - BitVec.ofNat 7 k ≠ 0 := by bv_omega
    have hnext : io.timer.counter - BitVec.ofNat 7 k - 1 =
        io.timer.counter - BitVec.ofNat 7 (k + 1) := by
      rw [BitVec.ofNat_add]
      bv_omega
    rw [Io.ticks_succ, ih (by omega), Io.tick_of_counter_ne_zero hleft, hnext]

/-- One tick more than the counter holds: the borrow. -/
theorem Io.ticks_counter_succ (io : Io) : Io.ticks (io.timer.counter.toNat + 1) io =
    { io with tiq := true, timer := { io.timer with counter := io.timer.reload } } := by
  have hzero : io.timer.counter - BitVec.ofNat 7 io.timer.counter.toNat = 0 := by
    rw [BitVec.ofNat_toNat, BitVec.setWidth_eq]
    exact BitVec.sub_self _
  rw [Io.ticks_succ, io.ticks_of_le_counter le_rfl, Io.tick_of_counter_eq_zero hzero]

theorem Io.clock_of_stopped {io : Io} (h : io.timer.start = false) (n : Nat) : io.clock n = io := by
  rw [Io.clock, h]
  rfl

/-- Periods that complete no tick are counted by the prescaler. -/
theorem Io.clock_of_no_tick {io : Io} (hrun : io.timer.start = true) {n : Nat}
    (h : io.timer.prescaler.toNat + n < 1024) : io.clock n =
      { io with timer := { io.timer with prescaler := io.timer.prescaler + BitVec.ofNat 10 n } } := by
  rw [Io.clock_of_start n hrun, Nat.div_eq_of_lt h, BitVec.ofNat_add, BitVec.ofNat_toNat,
    BitVec.setWidth_eq]
  rfl

/-- Periods that complete whole ticks leave the prescaler as it was. -/
theorem Io.clock_of_whole_ticks {io : Io} (hrun : io.timer.start = true) (n : Nat) :
    io.clock (n * 1024) = Io.ticks n io := by
  have hticks : (io.timer.prescaler.toNat + n * 1024) / 1024 = n := by omega
  have hprescaler : BitVec.ofNat 10 (io.timer.prescaler.toNat + n * 1024) = io.timer.prescaler := by
    bv_omega
  rw [Io.clock_of_start _ hrun, hticks, hprescaler, Io.ticks_eq]

/-- Settles O23: the ticks, and the clock as ticks or as the prescaler's count. -/
theorem timerCountsDown : Obligations.TimerCountsDown := by
  intro io
  refine ⟨fun k hk => io.ticks_of_le_counter hk, io.ticks_counter_succ,
    fun n hstop => Io.clock_of_stopped hstop n, fun n hrun hn => Io.clock_of_no_tick hrun hn,
    fun hrun hfull => ?_⟩
  rw [Io.clock_of_whole_ticks hrun, ← hfull, io.ticks_counter_succ, ← hfull]

end Sys2Proof.Machine

/-!
O25 and O26: the registers of the timer, the interrupt registers and the port (60_exceptions.md R501, R502,
R532 to R534, R540). The address selects a register; an access is what `State.readTarget` and
`State.writeTarget` do with it after the environment has acted.
-/

namespace Sys2Proof.Machine

/-! The addresses of the on-chip registers. -/

/-- The decode of physical $1FEC00 to $1FF7FF (20_memory.md R104). -/
theorem busTarget_onChip {pa : PhysAddr} (hlo : 0x1FEC00 ≤ pa.toNat) (hhi : pa.toNat < 0x1FF800) :
    busTarget pa =
      if pa.toNat < 0x1FF000 then (if pa.toNat % 2 = 0 then .timerCounter else .timerControl)
      else if pa.toNat < 0x1FF400 then .port
      else if pa.toNat % 4 = 2 then .idr
      else if pa.toNat % 4 = 3 then .irr else .undecoded := by
  have hexternal : ¬ pa.toNat < blockFFBase := by rw [blockFFBase]; omega
  have hvdc : ¬ pa.toNat < 0x1FE400 := by omega
  have hvce : ¬ pa.toNat < 0x1FE800 := by omega
  have hpsg : ¬ pa.toNat < 0x1FEC00 := by omega
  simp only [busTarget, hexternal, hvdc, hvce, hpsg, hhi, if_false, if_true]

theorem busTarget_timerCounter {pa : PhysAddr} (hlo : 0x1FEC00 ≤ pa.toNat)
    (hhi : pa.toNat < 0x1FF000) (heven : pa.toNat % 2 = 0) : busTarget pa = .timerCounter := by
  rw [busTarget_onChip hlo (by omega), if_pos hhi, if_pos heven]

theorem busTarget_port {pa : PhysAddr} (hlo : 0x1FF000 ≤ pa.toNat) (hhi : pa.toNat < 0x1FF400) :
    busTarget pa = .port := by
  rw [busTarget_onChip (by omega) (by omega), if_neg (by omega), if_pos hhi]

theorem busTarget_idr {pa : PhysAddr} (hlo : 0x1FF400 ≤ pa.toNat) (hhi : pa.toNat < 0x1FF800)
    (h : pa.toNat % 4 = 2) : busTarget pa = .idr := by
  rw [busTarget_onChip (by omega) hhi, if_neg (by omega), if_neg (by omega), if_pos h]

theorem busTarget_irr {pa : PhysAddr} (hlo : 0x1FF400 ≤ pa.toNat) (hhi : pa.toNat < 0x1FF800)
    (h : pa.toNat % 4 = 3) : busTarget pa = .irr := by
  rw [busTarget_onChip (by omega) hhi, if_neg (by omega), if_neg (by omega), if_neg (by omega),
    if_pos h]

theorem State.physRead_of_target (s : State) {pa : PhysAddr} {target : BusTarget}
    (h : busTarget pa = target) : s.physRead pa = s.elapse.readTarget target pa := by
  rw [State.physRead, h]

theorem State.physWrite_of_target (s : State) {pa : PhysAddr} {target : BusTarget} (v : Byte)
    (h : busTarget pa = target) : s.physWrite pa v = s.elapse.writeTarget target pa v := by
  rw [State.physWrite, h]

/-- A bit that holds a field reads as the field. -/
theorem State.fieldRead_getLsbD (s : State) (r : IoReg) {defined : Byte} (fields : Byte) {k : Nat}
    (h : defined.getLsbD k = true) :
    (s.fieldRead r defined fields).1.getLsbD k = fields.getLsbD k := by
  simp [State.fieldRead, h]

/-! The timer's registers (R532 to R534). -/

/-- A write of 0 to the start bit. -/
theorem Timer.control_stop (t : Timer) {v : Byte} (h : v.getLsbD 0 = false) :
    t.control v = { t with start := false, prescaler := 0 } := by
  simp only [Timer.control, h, Bool.and_false, Bool.false_eq_true, if_false]

/-- A write of 1 where the timer runs (log 34). -/
theorem Timer.control_restart {t : Timer} {v : Byte} (h : v.getLsbD 0 = true)
    (hrun : t.start = true) : t.control v = t := by
  simp only [Timer.control, h, hrun, Bool.not_true, Bool.and_true,
    Bool.false_eq_true, if_false, if_true]
  rw [← hrun]

/-- A write of 1 where it is stopped. -/
theorem Timer.control_start {t : Timer} {v : Byte} (h : v.getLsbD 0 = true)
    (hstop : t.start = false) :
    t.control v = { t with start := true, counter := t.reload, prescaler := 0 } := by
  simp only [Timer.control, h, hstop, Bool.not_false, Bool.and_true, Bool.false_eq_true, if_true,
    if_false]

/-- A write to the control register: the timer follows `Timer.control`. -/
theorem State.physWrite_timerControl (s : State) {pa : PhysAddr} (v : Byte)
    (h : busTarget pa = .timerControl) : s.physWrite pa v =
      { s with io := { s.io.elapse with timer := s.io.elapse.timer.control v } } :=
  s.physWrite_of_target v h

/-- Bits 6 to 0 of the counter register are the counter, where the read is not marked (R534). -/
theorem State.physRead_timerCounter (s : State) {pa : PhysAddr} (h : busTarget pa = .timerCounter)
    (hmark : s.io.elapse.glitch = false) :
    (s.physRead pa).1.setWidth 7 = s.io.elapse.timer.counter := by
  have hseen : s.elapse.io.counterSeen = s.io.elapse.timer.counter := by
    rw [State.elapse_io, Io.counterSeen, hmark]
    rfl
  have hfield : ∀ k < 7, (0x7F#8).getLsbD k = true := by decide
  refine BitVec.eq_of_getLsbD_eq fun k hk => ?_
  rw [s.physRead_of_target h, State.readTarget, BitVec.getLsbD_setWidth,
    State.fieldRead_getLsbD _ _ _ (hfield k hk), hseen, BitVec.getLsbD_setWidth]
  simp [hk, hk.trans (by decide : 7 < 8)]

/-- Settles O25: even addresses are the counter, odd ones the control register. -/
theorem timerRegisters : Obligations.TimerRegisters := by
  intro s pa v hlo hhi io
  have hcounter := busTarget_timerCounter hlo hhi
  have hcontrol (hodd : pa.toNat % 2 = 1) :=
    s.physWrite_timerControl v (busTarget_timerControl hlo hhi hodd)
  refine ⟨fun heven => s.physWrite_of_target v (hcounter heven), fun hodd hbit => ?stop,
    fun hodd hbit hrun => ?restart, fun hodd hbit hstop => ?start,
    fun heven hmark => s.physRead_timerCounter (hcounter heven) hmark⟩
  case stop => rw [hcontrol hodd, Timer.control_stop _ hbit]
  case restart => rw [hcontrol hodd, Timer.control_restart hbit hrun]
  case start => rw [hcontrol hodd, Timer.control_start hbit hstop]

/-! IRR, IDR and the port (R501, R502, R540). -/

/-- Three bits put together at positions 2, 1 and 0. -/
theorem getLsbD_threeBits (a b c : Bool) :
    let r := (bitByte a <<< 2) ||| (bitByte b <<< 1) ||| bitByte c
    r.getLsbD 2 = a ∧ r.getLsbD 1 = b ∧ r.getLsbD 0 = c := by
  revert a b c
  decide

/-- A read of three fields in bits 2 to 0. -/
theorem State.fieldRead_threeBits (s : State) (r : IoReg) {fields : Byte} {a b c : Bool}
    (h : fields = (bitByte a <<< 2) ||| (bitByte b <<< 1) ||| bitByte c) :
    let m := (s.fieldRead r 0x07#8 fields).1
    m.getLsbD 2 = a ∧ m.getLsbD 1 = b ∧ m.getLsbD 0 = c := by
  have hfield : ∀ k < 3, (0x07#8).getLsbD k = true := by decide
  intro m
  rw [s.fieldRead_getLsbD r fields (hfield 2 (by decide)),
    s.fieldRead_getLsbD r fields (hfield 1 (by decide)),
    s.fieldRead_getLsbD r fields (hfield 0 (by decide)), h]
  exact getLsbD_threeBits a b c

/-- Settles O26: the fields of each register, and its write. -/
theorem interruptRegistersAndPort : Obligations.InterruptRegistersAndPort := by
  intro s pa v io r
  refine ⟨fun hlo hhi h => ?irr, fun hlo hhi h => ?idr, fun hlo hhi => ?port⟩
  case irr =>
    have htarget := busTarget_irr hlo hhi h
    obtain ⟨htiq, hirq1, hirq2⟩ := s.elapse.fieldRead_threeBits .irr (fields := io.irrFields) rfl
    have hr : r = (s.elapse.fieldRead .irr 0x07#8 io.irrFields).1 :=
      congrArg Prod.fst (s.physRead_of_target htarget)
    exact ⟨hr ▸ htiq, hr ▸ hirq1, hr ▸ hirq2, s.physWrite_of_target v htarget⟩
  case idr =>
    have htarget := busTarget_idr hlo hhi h
    obtain ⟨htiqd, hirq1d, hirq2d⟩ := s.elapse.fieldRead_threeBits .idr (fields := io.idrFields) rfl
    have hr : r = (s.elapse.fieldRead .idr 0x07#8 io.idrFields).1 :=
      congrArg Prod.fst (s.physRead_of_target htarget)
    exact ⟨hr ▸ htiqd, hr ▸ hirq1d, hr ▸ hirq2d, s.physWrite_of_target v htarget⟩
  case port =>
    have htarget := busTarget_port hlo hhi
    exact ⟨congrArg Prod.fst (s.physRead_of_target htarget), s.physWrite_of_target v htarget⟩

end Sys2Proof.Machine

/-!
O60: cycle counts (70_reset_and_hazards.md R621, R622; log 23). A count is the base of its mnemonic and format
and the modifiers; which modifiers can be other than 0 is a matter of the mnemonic alone. So each class of
mnemonics has one lemma, and each clause of the statement follows from that of its class.
-/

namespace Sys2Proof.Machine

/-! The base counts (R621). -/

/-- The three columns of the table, for an instruction with an effective address. -/
theorem formCycles_mem (imp imm zp abs ind : Nat) (ea : Ea) :
    formCycles imp imm zp abs ind (.mem ea) = cyclesByMode zp abs ind ea := by
  cases ea <;> rfl

/-- The same for TST's formats. -/
theorem formCycles_immMem (imp imm zp abs ind : Nat) (nn : Byte) (ea : Ea) :
    formCycles imp imm zp abs ind (.immMem nn ea) = cyclesByMode zp abs ind ea := by
  cases ea <;> rfl

theorem two_le_formCycles {imp imm zp abs ind : Nat} (himp : 2 ≤ imp) (himm : 2 ≤ imm) (hzp : 2 ≤ zp)
    (habs : 2 ≤ abs) (hind : 2 ≤ ind) (f : Form) : 2 ≤ formCycles imp imm zp abs ind f := by
  cases f with
  | imp | acc => exact himp
  | mpr _ | imm _ | rel _ => exact himm
  | zpRel _ _ => exact hzp
  | absInd _ | absXInd _ => exact hind
  | mem ea | immMem _ ea =>
    cases ea with
    | zp _ | zpX _ | zpY _ => exact hzp
    | abs _ | absX _ | absY _ => exact habs
    | ind _ | indX _ | indY _ => exact hind
  | blk _ _ llll => exact Nat.le_add_right_of_le (by decide)

/-- No base count is below two. -/
theorem two_le_baseCycles (m : Mnemonic) (f : Form) : 2 ≤ baseCycles m f := by
  cases m with
  | adc | and | cmp | eor | lda | ora | sbc | sta | ldx | ldy | stx | sty | stz | cpx | cpy | bit
  | asl | lsr | rol | ror | inc | dec | trb | tsb | rmb _ | smb _ | tst | jmp
  | tii | tdd | tin | tia | tai =>
    exact two_le_formCycles (by decide) (by decide) (by decide) (by decide) (by decide) f
  | _ => exact Nat.le_of_ble_eq_true rfl

/-- The first row of the table: the instructions that read or store one byte. -/
def accessMnemonics : List Mnemonic :=
  [.adc, .and, .cmp, .eor, .lda, .ora, .sbc, .sta, .ldx, .ldy, .stx, .sty, .stz, .cpx, .cpy, .bit]

/-- The second row: the instructions that read and store one byte. -/
def modifyMnemonics : List Mnemonic := [.asl, .lsr, .rol, .ror, .inc, .dec, .trb, .tsb]

theorem baseCycles_of_access {m : Mnemonic} (h : accessMnemonics.contains m = true) (f : Form) :
    baseCycles m f = formCycles 2 2 4 5 7 f := by
  cases m with
  | adc | and | cmp | eor | lda | ora | sbc | sta | ldx | ldy | stx | sty | stz | cpx | cpy | bit => rfl
  | _ => cases h

theorem baseCycles_of_modify {m : Mnemonic} (h : modifyMnemonics.contains m = true) (f : Form) :
    baseCycles m f = formCycles 2 2 6 7 7 f := by
  cases m with
  | asl | lsr | rol | ror | inc | dec | trb | tsb => rfl
  | _ => cases h

/-! The modifiers (R622). -/

/-- What decimal mode and T mode add (R622 (a), (b)), as O60 says it. -/
def aluModifiers (m : Mnemonic) (s : State) : Nat :=
  let decimal := if s.p.d then 1 else 0
  let tMode := if s.p.t then 3 else 0
  if m = .adc then decimal + tMode
  else if m = .sbc then decimal
  else if m ∈ [Mnemonic.and, .eor, .ora] then tMode
  else 0

theorem aluModifiers_eq (m : Mnemonic) (s : State) :
    decimalCycles m s + tModeCycles m s = aluModifiers m s := by
  cases m with
  | adc | sbc | and | eor | ora => simp [decimalCycles, tModeCycles, aluModifiers]
  | _ => rfl

/-- The conditional branches. -/
def isConditionalBranch : Mnemonic → Bool
  | .bcc | .bcs | .bne | .beq | .bpl | .bmi | .bvc | .bvs | .bbr _ | .bbs _ => true
  | _ => false

/-- The mnemonics whose count no modifier changes. -/
def isUnmodified : Mnemonic → Bool
  | .adc | .sbc | .and | .eor | .ora | .tii | .tdd | .tin | .tia | .tai => false
  | m => !isConditionalBranch m

/-- The mnemonics whose count neither a modifier nor the format changes. -/
def isConstant : Mnemonic → Bool
  | .cla | .clx | .cly | .clc | .cld | .cli | .clv | .sec | .sed | .sei | .setT | .dex | .dey | .inx
  | .iny | .nop | .tax | .tay | .tsx | .txa | .txs | .tya | .pha | .php | .phx | .phy | .sax | .say
  | .sxy | .csh | .csl | .pla | .plp | .plx | .ply | .st0 | .st1 | .st2 | .tma | .bra | .tam
  | .jsr | .rts | .rti | .bsr | .brk => true
  | _ => false

section Classes

variable {i : Instr} {s : State} {m : Mnemonic}

/-- The first row has the modifiers of decimal mode and T mode and no other. -/
theorem cycleCount_of_access (h : accessMnemonics.contains i.mnemonic = true) :
    cycleCount i s = formCycles 2 2 4 5 7 i.form + aluModifiers i.mnemonic s := by
  rw [cycleCount, Nat.add_assoc (baseCycles _ _), aluModifiers_eq, baseCycles_of_access h]
  generalize i.mnemonic = m at h ⊢
  cases m with
  | adc | and | cmp | eor | lda | ora | sbc | sta | ldx | ldy | stx | sty | stz | cpx | cpy | bit => rfl
  | _ => cases h

theorem cycleCount_of_unmodified (hname : i.mnemonic = m) (h : isUnmodified m = true) :
    cycleCount i s = baseCycles m i.form := by
  rw [cycleCount, hname]
  cases m with
  | adc | sbc | and | eor | ora | tii | tdd | tin | tia | tai
  | bcc | bcs | bne | beq | bpl | bmi | bvc | bvs | bbr _ | bbs _ => cases h
  | _ => rfl

/-- A list of mnemonics that share one count. -/
theorem cycleCount_of_all_constant {l : List Mnemonic} {n : Nat}
    (h : ∀ m ∈ l, isConstant m = true ∧ baseCycles m .imp = n) (hi : i.mnemonic ∈ l) :
    cycleCount i s = n := by
  obtain ⟨hconstant, rfl⟩ := h _ hi
  rw [cycleCount]
  generalize i.mnemonic = m at hconstant ⊢
  cases m with
  | cla | clx | cly | clc | cld | cli | clv | sec | sed | sei | setT | dex | dey | inx | iny | nop
  | tax | tay | tsx | txa | txs | tya | pha | php | phx | phy | sax | say | sxy | csh | csl
  | pla | plp | plx | ply | st0 | st1 | st2 | tma | bra | tam | jsr | rts | rti | bsr | brk => rfl
  | _ => cases hconstant

/-- A conditional branch: two more where it is taken. -/
theorem cycleCount_of_branch {taken : Bool} (hname : i.mnemonic = m)
    (hm : isConditionalBranch m = true) (htaken : branchTaken m i.form s = taken) :
    cycleCount i s = if taken then baseCycles m i.form + 2 else baseCycles m i.form := by
  have hcount : cycleCount i s =
      baseCycles m i.form + if branchTaken m i.form s then 2 else 0 := by
    rw [cycleCount, hname]
    cases m with
    | bcc | bcs | bne | beq | bpl | bmi | bvc | bvs | bbr _ | bbs _ => rfl
    | _ => cases hm
  rw [hcount, htaken]
  cases taken <;> rfl

/-- A conditional branch that is taken where a bit is 0. -/
theorem cycleCount_of_branch_on_clear {bit : Bool} (hname : i.mnemonic = m)
    (hm : isConditionalBranch m = true) (htaken : branchTaken m i.form s = !bit) :
    cycleCount i s = if bit then baseCycles m i.form else baseCycles m i.form + 2 := by
  rw [cycleCount_of_branch hname hm htaken]
  cases bit <;> rfl

/-- RMBi and SMBi have the one format ZP. -/
theorem cycleCount_of_memoryBit {k : Fin 8} (h : i.mnemonic = .rmb k ∨ i.mnemonic = .smb k) :
    cycleCount i s = 7 := by
  cases i with
  | rmb0 _ | rmb1 _ | rmb2 _ | rmb3 _ | rmb4 _ | rmb5 _ | rmb6 _ | rmb7 _
  | smb0 _ | smb1 _ | smb2 _ | smb3 _ | smb4 _ | smb5 _ | smb6 _ | smb7 _ => rfl
  | _ => exact nomatch h

/-- TST alone has an immediate and an effective address. -/
theorem mnemonic_of_form_immMem {nn : Byte} {ea : Ea} (h : i.form = .immMem nn ea) :
    i.mnemonic = .tst := by
  cases i with
  | tstImmZp _ _ | tstImmAbs _ _ | tstImmZpX _ _ | tstImmAbsX _ _ => rfl
  | _ => cases h

/-! Block transfers (R622 (e)). -/

/-- A block transfer: six for each byte, and the further cycles of the bytes. -/
theorem cycleCount_of_block {src dst : Motion} {ssss dddd llll : Word}
    (hform : i.form = .blk ssss dddd llll) (hname : blockMotions i.mnemonic = some (src, dst)) :
    cycleCount i s = 17 + 6 * blockCount llll +
      s.vdcBlockCycles src dst (blockCount llll) ssss dddd false := by
  cases i with
  | tii _ _ _ | tdd _ _ _ | tin _ _ _ | tia _ _ _ | tai _ _ _ => cases hform; cases hname; rfl
  | _ => cases hform

end Classes

/-- Terms that are at least 1 where a predicate holds sum to at least the count of these. -/
theorem countP_le_sum_map {α : Type} {p : α → Bool} {f : α → Nat}
    (h : ∀ x, p x = true → 1 ≤ f x) (l : List α) : l.countP p ≤ (l.map f).sum := by
  induction l with
  | nil => exact Nat.le_refl 0
  | cons x l ih =>
    rw [List.countP_cons, List.map_cons, List.sum_cons]
    split
    · next hx => have := h x hx; omega
    · omega

/-- Whether byte `k` of a block transfer comes from or goes to the HuC6270. -/
def byteViaVdc (s : State) (src dst : Motion) (ssss dddd : Word) (k : Nat) : Bool :=
  s.selectsVdc (motionAt src ssss k) || s.selectsVdc (motionAt dst dddd k)

/-- Where no byte does there are no further cycles. -/
theorem State.vdcBlockCycles_eq_zero {s : State} {src dst : Motion} {ssss dddd : Word} {n : Nat}
    (h : ∀ k < n, byteViaVdc s src dst ssss dddd k = false) :
    s.vdcBlockCycles src dst n ssss dddd false = 0 := by
  rw [s.vdcBlockCycles_all]
  refine List.sum_eq_zero fun c hc => ?_
  obtain ⟨k, hk, rfl⟩ := List.mem_map.1 hc
  exact (s.vdcByteCycles_eq_zero _ _ _).2 (h k (List.mem_range.1 hk))

/-- Each byte that does takes at least one. -/
theorem State.countP_le_vdcBlockCycles (s : State) (src dst : Motion) (ssss dddd : Word) (n : Nat) :
    (List.range n).countP (byteViaVdc s src dst ssss dddd) ≤
      s.vdcBlockCycles src dst n ssss dddd false := by
  rw [s.vdcBlockCycles_all]
  refine countP_le_sum_map (fun k hk => Nat.one_le_iff_ne_zero.2 fun hzero => ?_) _
  have hnone := (s.vdcByteCycles_eq_zero _ _ _).1 hzero
  exact Bool.noConfusion (hk.symm.trans hnone)

/-- Settles O60: each clause is its class, and none of the bases is below two. -/
theorem cycleCounts : Obligations.CycleCounts := by
  intro i s decimal tMode extra
  refine ⟨?least, ?access, ?modify, fun k => cycleCount_of_memoryBit, ?tst, ?jmp, ?block,
    cycleCount_of_all_constant (by decide), cycleCount_of_all_constant (by decide),
    cycleCount_of_all_constant (by decide), ?tam,
    cycleCount_of_all_constant (by decide), cycleCount_of_all_constant (by decide),
    fun h => cycleCount_of_branch h rfl rfl, fun h => cycleCount_of_branch_on_clear h rfl rfl,
    fun h => cycleCount_of_branch h rfl rfl, fun h => cycleCount_of_branch_on_clear h rfl rfl,
    fun h => cycleCount_of_branch h rfl rfl, fun h => cycleCount_of_branch_on_clear h rfl rfl,
    fun h => cycleCount_of_branch h rfl rfl, fun h => cycleCount_of_branch_on_clear h rfl rfl,
    fun k zz rr hform => ⟨?bbr, ?bbs⟩⟩
  case least =>
    have hbase := two_le_baseCycles i.mnemonic i.form
    rw [cycleCount]
    omega
  case access =>
    intro hm
    have hcount := cycleCount_of_access (s := s) (List.contains_iff_mem.2 hm)
    refine ⟨fun nn hform => ?_, fun ea hform => ?_⟩
    · rw [hcount, hform]; rfl
    · rw [hcount, hform, formCycles_mem]; rfl
  case modify =>
    intro hm
    have hmodify : modifyMnemonics.contains i.mnemonic = true := List.contains_iff_mem.2 hm
    have hunmodified : isUnmodified i.mnemonic = true :=
      (by decide : ∀ m ∈ modifyMnemonics, isUnmodified m = true) _ hm
    have hcount := (cycleCount_of_unmodified (s := s) rfl hunmodified).trans
      (baseCycles_of_modify hmodify i.form)
    refine ⟨fun hform => ?_, fun ea hform => ?_⟩
    · rw [hcount, hform]; rfl
    · rw [hcount, hform, formCycles_mem]
  case tst =>
    intro nn ea hform
    rw [cycleCount_of_unmodified (mnemonic_of_form_immMem hform) rfl, hform]
    exact formCycles_immMem 2 2 7 8 8 nn ea
  case jmp =>
    intro hhll
    refine ⟨?_, ?_, ?_⟩
    all_goals
      rintro rfl
      exact cycleCount_of_unmodified rfl rfl
  case block =>
    intro src dst ssss dddd llll hform hlisted n vdc viaVdc
    have hcount := cycleCount_of_block (s := s) hform (blockMotions_of_listed hlisted)
    have hvia : viaVdc = byteViaVdc s src dst ssss dddd := by
      funext k
      rw [byteViaVdc, s.selectsVdc_eq, s.selectsVdc_eq]
    rw [hvia, hcount]
    refine ⟨fun hnone => ?_, Nat.add_le_add_left (s.countP_le_vdcBlockCycles src dst ssss dddd n) _⟩
    exact congrArg (17 + 6 * n + ·) (State.vdcBlockCycles_eq_zero hnone)
  case tam =>
    exact fun h => cycleCount_of_all_constant (l := [.tam]) (by decide) (List.mem_singleton.2 h)
  case bbr =>
    exact fun h => cycleCount_of_branch_on_clear h rfl (by rw [hform]; rfl)
  case bbs =>
    exact fun h => cycleCount_of_branch h rfl (by rw [hform]; rfl)

end Sys2Proof.Machine

/-!
O1 to O5 and O8: the decoder and the encoder (30_encoding.md). Decoding an encoding is `decode_encode` of O6.
The other direction reads the opcode map cell by cell: what a cell builds has the opcode byte the cell stands
at and the operand bytes it was built from.
-/

namespace Sys2Proof

/-- Settles O1: the round trip O6 rests on. -/
theorem decodeOfEncode : Obligations.DecodeOfEncode := decode_encode

/-! The opcode map read backwards (30_encoding.md R175, R176). -/

theorem wordBytes_joinBytes (hi lo : Byte) : wordBytes (joinBytes hi lo) = [lo, hi] := by
  rw [wordBytes, loByte_joinBytes, hiByte_joinBytes]

/-- A cell agrees with the encoder at an opcode byte: what it builds has that opcode byte and the operands it
was built from; an undefined cell stands at one of the bytes of R176. -/
inductive OpcodeCell.AgreesAt (op : Byte) : OpcodeCell → Prop
  | undef (h : undefinedOpcodes.contains op = true) : AgreesAt op .undef
  | op0 {i : Instr} (h : encode i = [op]) : AgreesAt op (.op0 i)
  | op1 {f : Byte → Instr} (h : ∀ b, encode (f b) = [op, b]) : AgreesAt op (.op1 f)
  | op2 {f : Byte → Byte → Instr} (h : ∀ b c, encode (f b c) = [op, b, c]) : AgreesAt op (.op2 f)
  | opW {f : Word → Instr} (h : ∀ w, encode (f w) = op :: wordBytes w) : AgreesAt op (.opW f)
  | opBW {f : Byte → Word → Instr} (h : ∀ b w, encode (f b w) = op :: b :: wordBytes w) :
    AgreesAt op (.opBW f)
  | opBlk {f : Word → Word → Word → Instr}
      (h : ∀ u v w, encode (f u v w) = op :: (wordBytes u ++ wordBytes v ++ wordBytes w)) :
    AgreesAt op (.opBlk f)

/-- A predicate on the entries of a list, each taken with its number; the first has number `n`, each next one
`step` more. -/
inductive AllNumbered {α : Type} (step : Nat) (P : Nat → α → Prop) : Nat → List α → Prop
  | nil {n : Nat} : AllNumbered step P n []
  | cons {n : Nat} {x : α} {xs : List α} (hx : P n x) (hxs : AllNumbered step P (n + step) xs) :
    AllNumbered step P n (x :: xs)

theorem AllNumbered.getD {α : Type} {step n : Nat} {P : Nat → α → Prop} {xs : List α}
    (h : AllNumbered step P n xs) {k : Nat} (hk : k < xs.length) (d : α) :
    P (n + step * k) (xs.getD k d) := by
  induction h generalizing k with
  | nil => exact absurd hk (Nat.not_lt_zero k)
  | cons hx _ ih =>
    cases k with
    | zero => exact hx
    | succ k =>
      have htail := ih (Nat.lt_of_succ_lt_succ hk)
      rwa [Nat.add_assoc, Nat.add_comm step, ← Nat.mul_succ] at htail

/-- The cells of a row that begins at opcode byte `n` agree with the encoder. -/
abbrev RowAgrees : Nat → List OpcodeCell → Prop :=
  AllNumbered 1 fun n c => c.AgreesAt (BitVec.ofNat 8 n)

theorem opcodeRow_length : ∀ k < 16, (opcodeMap.getD k []).length = 16 := by decide

/-- The map of R175 against the opcode bytes and the formats of the encoder, cell by cell. -/
theorem opcodeMap_agrees : AllNumbered 16 RowAgrees 0 opcodeMap := by
  repeat' constructor
  all_goals
    intros
    rfl

theorem opcodeCell_agrees (op : Byte) : (opcodeCell op).AgreesAt op := by
  have hrow : op.toNat / 16 < opcodeMap.length := Nat.div_lt_of_lt_mul op.isLt
  have hcol : op.toNat % 16 < (opcodeMap.getD (op.toNat / 16) []).length := by
    rw [opcodeRow_length _ hrow]
    exact Nat.mod_lt op.toNat (by decide)
  have hcell := (opcodeMap_agrees.getD hrow []).getD hcol .undef
  have hbyte : BitVec.ofNat 8 (0 + 16 * (op.toNat / 16) + 1 * (op.toNat % 16)) = op := by
    rw [Nat.zero_add, Nat.one_mul, Nat.div_add_mod, BitVec.ofNat_toNat, BitVec.setWidth_eq]
  rwa [hbyte] at hcell

/-- The bytes from which a cell builds an instruction are that instruction's encoding. -/
theorem OpcodeCell.AgreesAt.bytes_of_build {op : Byte} {c : OpcodeCell} (h : c.AgreesAt op)
    {bytes rest : List Byte} {i : Instr} (hbuild : c.build bytes = some (i, rest)) :
    op :: bytes = encode i ++ rest := by
  cases h with
  | undef => cases hbuild
  | op0 h => cases hbuild; rw [h]; rfl
  | op1 h =>
    rcases bytes with _ | ⟨b, _⟩ <;> cases hbuild
    rw [h b]; rfl
  | op2 h =>
    rcases bytes with _ | ⟨b, _ | ⟨c, _⟩⟩ <;> cases hbuild
    rw [h b c]; rfl
  | opW h =>
    rcases bytes with _ | ⟨lo, _ | ⟨hi, _⟩⟩ <;> cases hbuild
    rw [h (joinBytes hi lo), wordBytes_joinBytes]; rfl
  | opBW h =>
    rcases bytes with _ | ⟨b, _ | ⟨lo, _ | ⟨hi, _⟩⟩⟩ <;> cases hbuild
    rw [h b (joinBytes hi lo), wordBytes_joinBytes]; rfl
  | opBlk h =>
    rcases bytes with _ | ⟨sl, _ | ⟨sh, _ | ⟨dl, _ | ⟨dh, _ | ⟨ll, _ | ⟨lh, _⟩⟩⟩⟩⟩⟩ <;> cases hbuild
    rw [h (joinBytes sh sl) (joinBytes dh dl) (joinBytes lh ll), wordBytes_joinBytes,
      wordBytes_joinBytes, wordBytes_joinBytes]
    rfl

/-! The decoder by what its cell answers. -/

theorem decode_nil : decode [] = .error .truncated := rfl

theorem decode_of_undefined {op : Byte} (h : (opcodeCell op).operandBytes = none) (rest : List Byte) :
    decode (op :: rest) = .error (.illegalOpcode op) := by
  delta decode
  simp only [h]

theorem decode_of_defined {op : Byte} {n : Nat} (h : (opcodeCell op).operandBytes = some n)
    (rest : List Byte) :
    decode (op :: rest) = ((opcodeCell op).build rest).elim (.error .truncated) .ok := by
  delta decode
  simp only [h]
  cases (opcodeCell op).build rest <;> rfl

/-- What decodes was built by the cell of its first byte. -/
theorem build_of_decode {op : Byte} {bytes : List Byte} {r : Instr × List Byte}
    (h : decode (op :: bytes) = .ok r) : (opcodeCell op).build bytes = some r := by
  cases hcell : (opcodeCell op).operandBytes with
  | none => rw [decode_of_undefined hcell] at h; cases h
  | some n =>
    rw [decode_of_defined hcell] at h
    cases hbuild : (opcodeCell op).build bytes with
    | none => rw [hbuild] at h; cases h
    | some q => rw [hbuild] at h; cases h; rfl

/-- Settles O2: the cell built the instruction, and it agrees with the encoder. -/
theorem encodeOfDecode : Obligations.EncodeOfDecode := by
  intro bytes rest i h
  cases bytes with
  | nil => cases decode_nil.symm.trans h
  | cons op bytes => exact (opcodeCell_agrees op).bytes_of_build (build_of_decode h)

/-! The undefined opcode bytes. -/

/-- The cells without operand bytes of their own are those of R176. -/
theorem operandBytes_eq_none_iff (op : Byte) :
    (opcodeCell op).operandBytes = none ↔ op ∈ undefinedOpcodes := by
  constructor
  · intro h
    cases hcell : opcodeCell op with
    | undef =>
      have hagrees := opcodeCell_agrees op
      rw [hcell] at hagrees
      cases hagrees with
      | undef hmem => exact List.contains_iff_mem.1 hmem
    | _ => rw [hcell] at h; cases h
  · have hundef : undefinedOpcodes.map (fun op => (opcodeCell op).operandBytes) =
        List.replicate undefinedOpcodes.length none := rfl
    exact List.map_eq_replicate_iff.1 hundef op

/-- The decoder refuses an opcode byte exactly where its cell is undefined. -/
theorem decode_eq_illegalOpcode_iff (op : Byte) (rest : List Byte) :
    decode (op :: rest) = .error (.illegalOpcode op) ↔ (opcodeCell op).operandBytes = none := by
  refine ⟨fun h => ?_, fun h => decode_of_undefined h rest⟩
  cases hcell : (opcodeCell op).operandBytes with
  | none => rfl
  | some n =>
    rw [decode_of_defined hcell] at h
    cases hbuild : (opcodeCell op).build rest with
    | none => rw [hbuild] at h; cases h
    | some q => rw [hbuild] at h; cases h

/-! Words of the opcode table. -/

/-- A word whose bytes begin with an encoding decodes to the instruction encoded. -/
theorem decodeTableWord_of_bytes {nbits w : Nat} {i : Instr}
    (h : encode i <+: tableWordBytes nbits w) : decodeTableWord nbits w = some i := by
  obtain ⟨rest, hbytes⟩ := h
  delta decodeTableWord
  simp only [← hbytes, decode_encode]

/-- Settles O4: each word is laid out as the encoder lays out its instruction. -/
theorem wordsDecodeAsWritten : Obligations.WordsDecodeAsWritten := by
  repeat' apply And.intro
  all_goals exact decodeTableWord_of_bytes ⟨_, rfl⟩

/-! The bit instructions (30_encoding.md R177). -/

/-- The opcode byte R177 gives to a bit instruction. -/
def bitPattern : Mnemonic → Option Nat
  | .bbr n => some (n.val * 0x10 + 0x0F)
  | .bbs n => some (n.val * 0x10 + 0x8F)
  | .rmb n => some (n.val * 0x10 + 0x07)
  | .smb n => some (n.val * 0x10 + 0x87)
  | _ => none

theorem bitPattern_mnemonic (i : Instr) :
    bitPattern i.mnemonic = none ∨ bitPattern i.mnemonic = some i.opcode.toNat := by
  cases i with
  | bbr0 _ _ | bbr1 _ _ | bbr2 _ _ | bbr3 _ _ | bbr4 _ _ | bbr5 _ _ | bbr6 _ _ | bbr7 _ _
  | bbs0 _ _ | bbs1 _ _ | bbs2 _ _ | bbs3 _ _ | bbs4 _ _ | bbs5 _ _ | bbs6 _ _ | bbs7 _ _
  | rmb0 _ | rmb1 _ | rmb2 _ | rmb3 _ | rmb4 _ | rmb5 _ | rmb6 _ | rmb7 _
  | smb0 _ | smb1 _ | smb2 _ | smb3 _ | smb4 _ | smb5 _ | smb6 _ | smb7 _ => exact .inr rfl
  | _ => exact .inl rfl

theorem opcode_of_bitPattern {i : Instr} {k : Nat} (h : bitPattern i.mnemonic = some k) :
    i.opcode.toNat = k := by
  rcases bitPattern_mnemonic i with hnone | hsome
  · cases hnone.symm.trans h
  · exact Option.some.inj (hsome.symm.trans h)

/-- Whatever the operands, a cell of one or two operand bytes builds instructions of one mnemonic. -/
def OpcodeCell.Names (m : Mnemonic) : OpcodeCell → Prop
  | .op1 f => ∀ b, (f b).mnemonic = m
  | .op2 f => ∀ b c, (f b c).mnemonic = m
  | _ => False

theorem OpcodeCell.Names.mnemonic_of_build {m : Mnemonic} {c : OpcodeCell} (h : c.Names m)
    {bytes rest : List Byte} {i : Instr} (hbuild : c.build bytes = some (i, rest)) :
    i.mnemonic = m := by
  cases c with
  | op1 _ => rcases bytes with _ | ⟨b, _⟩ <;> cases hbuild; exact h b
  | op2 _ => rcases bytes with _ | ⟨b, _ | ⟨c, _⟩⟩ <;> cases hbuild; exact h b c
  | _ => exact h.elim

theorem names_of_bitPattern {m : Mnemonic} {k : Nat} (h : bitPattern m = some k) :
    (opcodeCell (BitVec.ofNat 8 k)).Names m := by
  cases m with
  | bbr n | bbs n =>
    cases h
    exact match n with | 0 | 1 | 2 | 3 | 4 | 5 | 6 | 7 => fun _ _ => rfl
  | rmb n | smb n =>
    cases h
    exact match n with | 0 | 1 | 2 | 3 | 4 | 5 | 6 | 7 => fun _ => rfl
  | _ => cases h

theorem mnemonic_of_decode {m : Mnemonic} {k : Nat} (h : bitPattern m = some k)
    {bytes rest : List Byte} {i : Instr} (hdecode : decode (BitVec.ofNat 8 k :: bytes) = .ok (i, rest)) :
    i.mnemonic = m :=
  (names_of_bitPattern h).mnemonic_of_build (build_of_decode hdecode)

/-- Settles O5: the pattern of the mnemonic is its opcode byte, and its cell builds that mnemonic alone. -/
theorem bitOpcodePatterns : Obligations.BitOpcodePatterns := by
  intro n i
  refine ⟨?_, ?_, ?_, ?_, ?_, ?_, ?_, ?_⟩
  case refine_5 | refine_6 =>
    rintro ⟨z, r, hdecode⟩
    exact mnemonic_of_decode rfl hdecode
  case refine_7 | refine_8 =>
    rintro ⟨z, hdecode⟩
    exact mnemonic_of_decode rfl hdecode
  all_goals
    intro hname
    exact opcode_of_bitPattern (hname ▸ rfl)

end Sys2Proof

namespace Sys2Proof.Machine

/-- Settles O3: the decoder refuses where the cell is undefined, and those cells are the 22 of R176. -/
theorem undefinedOpcodes : Obligations.UndefinedOpcodes := fun op rest =>
  (decode_eq_illegalOpcode_iff op rest).trans (operandBytes_eq_none_iff op)

/-! The step at an undefined opcode byte. -/

/-- At rest the fetch of an undefined opcode byte is that byte alone. -/
theorem State.fetch_of_undefined {s : State} (hquiet : s.elapse = s) {op : Byte}
    (hundef : (opcodeCell op).operandBytes = none) (h : s.holds s.pc [op] = true) :
    s.fetch = ([op], s) := by
  obtain ⟨hmem, hop, -⟩ := State.holds_cons.1 h
  delta State.fetch
  simp only [State.memRead_of_quiet hquiet hmem, hop, hundef]

/-- Settles O8: the fetched byte alone is no instruction. -/
theorem stepRefusesUndefinedOpcode : Obligations.StepRefusesUndefinedOpcode := by
  intro s op hrest hsel hholds hop
  obtain ⟨hquiet, hreset⟩ := State.elapse_of_atRest hrest
  have hundef : (opcodeCell op).operandBytes = none := (operandBytes_eq_none_iff op).2 hop
  have hfetch : s.fetch = ([op], s) := State.fetch_of_undefined hquiet hundef hholds
  have hdecode : decode s.fetch.1 = .error (.illegalOpcode op) := by
    rw [hfetch]
    exact decode_of_undefined hundef []
  refine step_of_plan_refuse ?_
  rw [State.plan_of_fetch (by rwa [hquiet]) hsel, hquiet, State.planFetch_of_error hdecode, hfetch]
  rfl

end Sys2Proof.Machine

/-!
O29 and O50: effective addresses (30_encoding.md R157 to R166) and JMP (45_branch.md R382).
-/

namespace Sys2Proof.Machine

theorem zpAddr_add_toNat (z b : Byte) :
    (zpAddr (z + b)).toNat = 0x2000 + (z.toNat + b.toNat) % 256 := by
  rw [zpAddr_toNat, BitVec.toNat_add]

/-- An index register is zero-extended (R174). -/
theorem add_setWidth_toNat (w : Word) (b : Byte) :
    (w + b.setWidth 16).toNat = (w.toNat + b.toNat) % 65536 := by
  rw [BitVec.toNat_add, BitVec.toNat_setWidth_of_le (by decide)]

/-- A pair of bytes of RAM or ROM; the first read changes neither of them. -/
theorem State.readPair_of_memory {s : State} {lo hi : Word} (hlo : s.isMemory (s.translate lo) = true)
    (hhi : s.isMemory (s.translate hi) = true) :
    (s.readPair lo hi).1 = joinBytes (s.peek (s.translate hi)) (s.peek (s.translate lo)) := by
  have htranslate := State.translate_congr (s.memRead_mpr lo) hi
  have hsecond := (s.memRead lo).2.memRead_memory hi
    (by rwa [htranslate, State.isMemory_congr (s.memRead_platform lo)])
  rw [htranslate, State.peek_congr (s.memRead_mem lo)] at hsecond
  have hfirst := s.memRead_memory lo hlo
  exact congrArg₂ joinBytes (congrArg Prod.fst hsecond) (congrArg Prod.fst hfirst)

/-- Settles O29: sums of bytes wrap modulo 256, sums of words modulo 65536, and a pointer is a pair of bytes. -/
theorem effectiveAddresses : Obligations.EffectiveAddresses := by
  intro s z w pointer readable
  have hpointer (p : Byte) (h : readable p) : (s.zpPointer p).1.toNat = pointer p := by
    obtain ⟨hlo, hhi⟩ := h
    rw [State.zpPointer, State.readPair_of_memory hlo hhi, joinBytes_toNat, Nat.add_comm]
  refine ⟨zpAddr_toNat z, zpAddr_add_toNat z s.x, zpAddr_add_toNat z s.y, rfl, add_setWidth_toNat w s.x,
    add_setWidth_toNat w s.y, hpointer z, hpointer (z + s.x), fun h => ?_⟩
  rw [← hpointer z h]
  exact add_setWidth_toNat _ s.y

/-- Settles O50: the two indirect forms are one shape, and no form writes memory. -/
theorem jumpResult : Obligations.JumpResult := by
  intro s hhll direct through
  have hthrough (la : Word) : (.next (s.jumpIndirect la) : Result) = .next (through la) :=
    congrArg Host.Outcome.next (s.jumpIndirect_eq la)
  exact ⟨rfl, .of_mem rfl, hthrough hhll, .of_mem rfl, hthrough (hhll + s.x.setWidth 16), .of_mem rfl⟩

end Sys2Proof.Machine
